-- ==== Sys2Proof/Word.lean ====
section
/-! DEFINITION. The word types of the block (R5: every integer is unsigned). Byte order, sums and every other
helper a test could show wrong stand in Sys2Proof/Decode.lean. -/

namespace Sys2Proof

/-- A byte, the unit of both streams and both buffers (R5, R53). -/
abbrev Byte := BitVec 8

/-- A 16-bit field: device-class identifier, length, code (R74 to R78). -/
abbrev Half := BitVec 16

/-- The width of the byte counters TXLEN, TXCNT and RXCNT (R24). -/
abbrev Count := BitVec 17

end Sys2Proof
end

