-- ==== Sys2Proof/Config.lean ====
section
/-! DEFINITION. The parameters of R4, the straps at the first reset, and the free values (names with no body). -/

namespace Sys2Proof.Config

/-- `TAG_TX`: the first byte of a command frame (R4, R73). -/
def tagTx : Byte := 0xAA

/-- `TAG_RX`: the first byte of a reply frame (R4, R73). -/
def tagRx : Byte := 0xAB

/-- `DEVID`: the device-class identifier of both directions (R4, R74). -/
def devId : Half := 0x0001

/-- `FEEDBACK`: the reply code that marks a feedback reply (R4, R80). -/
def feedbackCode : Half := 0xFFFF

/-- `ST_OK`: the feedback status "OK" (R4, R210). -/
def statusOk : Byte := 0x00

/-- `DIRECT`: the address sentinel of one specific entity (R4, R150). -/
def direct : Byte := 0x00

/-- `BROADCAST`: the address sentinel of all entities of a dimension (R4, R150). -/
def broadcast : Byte := 0xFF

/-- `LEN_BIAS`: a command's `len` is its payload length plus this (R4, R75). -/
def lenBias : Nat := 3

/-- `HDR_RX`: bytes of the reply header region (R4, R121). -/
def hdrRx : Nat := 5

/-- `HDR_TX`: bytes of the command header, the two address bytes included (R4, R71). -/
def hdrTx : Nat := 7

/-- `P_TXMAX`: the longest SEND payload accepted (R4, R106, D7). -/
def txMax : Nat := 65532

/-- `P_RXMAX`: the longest reply payload region (R4, R76). -/
def rxMax : Nat := 65535

/-- Entries of TXBUF (R42). -/
def txbufSize : Nat := 65540

/-- Entries of RXBUF (R43). -/
def rxbufSize : Nat := 65535

/-- The strap `cfg_gaddr` at State.reset. DESIGN CHOICE, unsafe (entry 3): the spec says the host must choose. -/
def strapGaddr : Byte := 0x00

/-- The strap `cfg_daddr` at State.reset. DESIGN CHOICE, unsafe (entry 3): the spec says the host must choose. -/
def strapDaddr : Byte := 0x00

/-- The strap `cfg_rxck` at State.reset: the default of R4. DESIGN CHOICE, unsafe (entry 3). -/
def strapRxck : Bool := false

/-- The value of a byte the spec leaves unspecified, the n-th one the run meets: RXHDR after a RESET event (R46).
A free value: no body, so nothing can be proved of it. DESIGN CHOICE, safe (entries 4 and 6). -/
opaque freeByte : Nat → Byte

/-! The values of the host software that the source does not give: names with no body (entry 15), safe. -/

/-- The display string of a SignalInfo field's value other than 0, by the field's input offset; `none` is the source's
lookup failure (R223, N11). -/
opaque displayString : Nat → Byte → Option String

/-- The display string of value 0 of the fields whose index-0 string the source elides, by the field's input offset
(R223). -/
opaque indexZeroText : Nat → String

/-- The display string of a feedback reason other than "wrong command", by the reason's name (R212, R243). -/
opaque reasonText : String → String

/-- The number of argument bytes of a command: fixed for its code, and not in the source (R227, N7). -/
opaque argumentWidth : Half → Nat

/-- A byte, by its index, of the argument bytes of a level or status for a command code: its place among them is not in
the source (R185, R186, N7). -/
opaque argumentByte : Half → Int → Nat → Byte

/-- A returned payload read as a single integer; `none` where it cannot be read so (R228). -/
opaque payloadInteger : List Byte → Option Nat

/-- A returned payload read as a boolean; `none` where it cannot be read so (R228). -/
opaque payloadBoolean : List Byte → Option Bool

/-- A returned payload read as a fixed tuple of bytes; `none` where it cannot be read so (R228). -/
opaque payloadTuple : List Byte → Option (List Byte)

/-- The multi-line rendering of a SignalInfo, from its ten raw bytes and their display strings (R231). -/
opaque signalSummary : List Byte → List String → String

/-- The multi-line rendering of Timings, from the clock, the three flags and the eight fields (R231). -/
opaque timingsSummary : Nat → List Bool → List Half → String

end Sys2Proof.Config
end

