-- ==== Sys2Proof/Syntax.lean ====
section
/-! DEFINITION. The instructions: one constructor for each of the 39 rows of spec/opcode_table.json (R88), and the
two shapes an instruction is fetched in: bytes at the place the row's format names, or a request on a host port. -/

namespace Sys2Proof

/-- The formats of spec/opcode_table.json that have a bit pattern, each naming the bytes it is read from (R88). -/
inductive Format where
  /-- a whole command frame -/
  | cf
  /-- the five header bytes of a reply frame -/
  | rf
  /-- the payload of a command frame, its code first -/
  | cfCode
  /-- the payload region of a reply frame, its code first -/
  | rfCode
  /-- the payload region of a feedback reply, its code and status first -/
  | rfFeedback
  deriving DecidableEq, Repr

/-- A request on the request port or the reset port: the HOST format, which has no bit pattern (R41, R88). -/
inductive Request where
  | send (p : List Byte)
  | recv
  | rdcr (n : Nat)
  | reset (g d : Byte) (rxck : Bool)
  deriving DecidableEq, Repr

/-- What an instruction is decoded from and encoded to. -/
inductive Wire where
  | bytes (f : Format) (bs : List Byte)
  | request (r : Request)
  deriving DecidableEq, Repr

/-- The instructions, in the opcode table's order. -/
inductive Instr where
  /-- CF: a command frame with its length field, addresses, payload and checksum byte (R71) -/
  | cf (len : Half) (g d : Byte) (payload : List Byte) (csum : Byte)
  /-- RF: a reply frame, known by its header with the length `len` of its payload region (R72) -/
  | rf (len : Half)
  | setVolume (args : List Byte)
  | setStandby (args : List Byte)
  | setMonitorSettings (args : List Byte)
  | setAddr (args : List Byte)
  | setRxEdid (args : List Byte)
  | downloadUserEdid (args : List Byte)
  | setBaudRate (args : List Byte)
  | getVolume (args : List Byte)
  | getStandby (args : List Byte)
  | getSource (args : List Byte)
  | getSignalInfo (args : List Byte)
  | getTiming (args : List Byte)
  | getSignalPackageInfo (args : List Byte)
  | getPicture (args : List Byte)
  | getMonitoringData (args : List Byte)
  | getPixelRgbData (args : List Byte)
  | getBatteryVoltage (args : List Byte)
  | getExt5vInput (args : List Byte)
  | getSignalStatus (args : List Byte)
  | getDeviceAddr (args : List Byte)
  | getDeviceVersion (args : List Byte)
  | getRxEdidIndex (args : List Byte)
  | getRxEdidData (args : List Byte)
  | getFwInfo (args : List Byte)
  /-- FEEDBACK: a reply region `FF FF` and what follows it, the status byte first if there is one (R209) -/
  | feedback (tail : List Byte)
  /-- DATA_REPLY: a reply region with a code other than 0xFFFF (R126, R128) -/
  | dataReply (code : Half) (payload : List Byte)
  /-- FB_OK: a feedback reply with status 0x00; `rest` follows the status byte (R210) -/
  | fbOk (rest : List Byte)
  | fbChecksumError (rest : List Byte)
  | fbWrongCommand (rest : List Byte)
  | fbExecError (rest : List Byte)
  | fbInvalidMode (rest : List Byte)
  | fbAddressError (rest : List Byte)
  /-- FB_UNKNOWN: a feedback reply with a status of 0x06 to 0xFF (R216) -/
  | fbUnknown (status : Byte) (rest : List Byte)
  /-- SEND: the host's request to frame and transmit a payload (R105) -/
  | send (p : List Byte)
  /-- RECV: the host's request to receive one reply (R134) -/
  | recv
  /-- RDCR: the host's request to read a control register (R176) -/
  | rdcr (n : Nat)
  /-- RESET with its three straps (R173) -/
  | reset (g d : Byte) (rxck : Bool)
  deriving DecidableEq, Repr

end Sys2Proof
end

