-- ==== Sys2Proof/Decode.lean ====
section
/-! DEFINITION. Byte order and checksum (R6), the decoder of each format of the opcode table (R88), the encoder, and
the source's two pure functions on whole frames: Encode (R100) with its inverse (R87), and DecodeReply (R120). -/

namespace Sys2Proof

/-! ### Primitives (R6) -/

/-- `lo8(v)`: the byte sent first (R50). -/
def lo8 (v : Half) : Byte := v.extractLsb' 0 8

/-- `hi8(v)`: the byte sent second (R50). -/
def hi8 (v : Half) : Byte := v.extractLsb' 8 8

/-- `le16(b0, b1)`: the 16-bit value whose low byte `b0` comes first on the wire (R6, R50). -/
def le16 (b0 b1 : Byte) : Half := BitVec.ofNat 16 (b0.toNat + 256 * b1.toNat)

/-- The sum of all bytes of `s` as naturals, the `S` of R102. -/
def byteSum : List Byte → Nat
  | [] => 0
  | b :: s => b.toNat + byteSum s

/-- `sum8(s)` (R6). -/
def sum8 (s : List Byte) : Byte := BitVec.ofNat 8 (byteSum s % 256)

/-- `Checksum(s)`: the source's formula, its outer `mod 256` included (R6, R102). -/
def checksum (s : List Byte) : Byte := BitVec.ofNat 8 ((256 - byteSum s % 256) % 256)

/-- The `n` little-endian bytes of a number, the byte with the lowest offset first (R88). -/
def bytesOfNat : Nat → Nat → List Byte
  | 0, _ => []
  | n + 1, w => BitVec.ofNat 8 w :: bytesOfNat n (w / 256)

/-! ### The decoder -/

/-- Why bytes are not an instruction of a format. -/
inductive Reject where
  /-- fewer bytes, or more, than the format's fixed fields need -/
  | badSize
  /-- the first byte is not the format's tag (R122) -/
  | badTag (tag : Byte)
  /-- the device-class identifier is not 0x0001 (R123) -/
  | badDeviceId (devid : Half)
  /-- a command code outside the table of R82; the block frames it all the same (R107) -/
  | unlistedCode (code : Half)
  /-- a reply region of fewer than two bytes (R127) -/
  | noCode
  /-- a region that is not `FF FF` followed by a status byte -/
  | notFeedback
  deriving DecidableEq, Repr

/-- The code table of R82, without FEEDBACK, which is a reply's code. -/
def commandOfCode (c : Half) : Option (List Byte → Instr) :=
  if c = 0x0080 then some .setVolume
  else if c = 0x0081 then some .setStandby
  else if c = 0x0096 then some .setMonitorSettings
  else if c = 0x7801 then some .setAddr
  else if c = 0x7850 then some .setRxEdid
  else if c = 0x7851 then some .downloadUserEdid
  else if c = 0x7879 then some .setBaudRate
  else if c = 0x8080 then some .getVolume
  else if c = 0x8081 then some .getStandby
  else if c = 0x8082 then some .getSource
  else if c = 0x8090 then some .getSignalInfo
  else if c = 0x8091 then some .getTiming
  else if c = 0x8092 then some .getSignalPackageInfo
  else if c = 0x8095 then some .getPicture
  else if c = 0x8096 then some .getMonitoringData
  else if c = 0x8097 then some .getPixelRgbData
  else if c = 0x8098 then some .getBatteryVoltage
  else if c = 0x8099 then some .getExt5vInput
  else if c = 0x809F then some .getSignalStatus
  else if c = 0xF801 then some .getDeviceAddr
  else if c = 0xF802 then some .getDeviceVersion
  else if c = 0xF850 then some .getRxEdidIndex
  else if c = 0xF851 then some .getRxEdidData
  else if c = 0xF858 then some .getFwInfo
  else none

/-- A command frame by its fields (R71). The length field and the checksum byte are carried as they stand; whether
they are the right ones is WellFormed's question, and `parseCommand`'s. DESIGN CHOICE, safe (entry 12). -/
def decodeFrame : List Byte → Except Reject Instr
  | t :: v0 :: v1 :: l0 :: l1 :: g :: d :: x :: xs =>
    if t ≠ Config.tagTx then .error (.badTag t)
    else if le16 v0 v1 ≠ Config.devId then .error (.badDeviceId (le16 v0 v1))
    else .ok (.cf (le16 l0 l1) g d (x :: xs).dropLast ((x :: xs).getLast (List.cons_ne_nil x xs)))
  | _ => .error .badSize

/-- The 5-byte header of a reply, the tag checked first (R121 to R124). -/
def decodeHeader : List Byte → Except Reject Instr
  | [t, v0, v1, l0, l1] =>
    if t ≠ Config.tagRx then .error (.badTag t)
    else if le16 v0 v1 ≠ Config.devId then .error (.badDeviceId (le16 v0 v1))
    else .ok (.rf (le16 l0 l1))
  | _ => .error .badSize

/-- A command payload by its code (R78, R82). -/
def decodeCommand : List Byte → Except Reject Instr
  | b0 :: b1 :: args =>
    match commandOfCode (le16 b0 b1) with
    | some f => .ok (f args)
    | none => .error (.unlistedCode (le16 b0 b1))
  | _ => .error .badSize

/-- A reply region by its code, which is compared with 0xFFFF and with nothing else (R126, R135). -/
def decodeRegionCode : List Byte → Except Reject Instr
  | b0 :: b1 :: tail =>
    if le16 b0 b1 = Config.feedbackCode then .ok (.feedback tail) else .ok (.dataReply (le16 b0 b1) tail)
  | _ => .error .noCode

/-- A feedback region by its status byte (R83). -/
def decodeFeedback : List Byte → Except Reject Instr
  | b0 :: b1 :: st :: rest =>
    if le16 b0 b1 ≠ Config.feedbackCode then .error .notFeedback
    else if st = 0x00 then .ok (.fbOk rest)
    else if st = 0x01 then .ok (.fbChecksumError rest)
    else if st = 0x02 then .ok (.fbWrongCommand rest)
    else if st = 0x03 then .ok (.fbExecError rest)
    else if st = 0x04 then .ok (.fbInvalidMode rest)
    else if st = 0x05 then .ok (.fbAddressError rest)
    else .ok (.fbUnknown st rest)
  | _ => .error .notFeedback

/-- The instruction of a request: the HOST rows have no bit pattern (R88). -/
def decodeRequest : Request → Instr
  | .send p => .send p
  | .recv => .recv
  | .rdcr n => .rdcr n
  | .reset g d k => .reset g d k

/-- The decoder: total on any bytes of any format and on any request. -/
def decode : Wire → Except Reject Instr
  | .bytes .cf bs => decodeFrame bs
  | .bytes .rf bs => decodeHeader bs
  | .bytes .cfCode bs => decodeCommand bs
  | .bytes .rfCode bs => decodeRegionCode bs
  | .bytes .rfFeedback bs => decodeFeedback bs
  | .request r => .ok (decodeRequest r)

/-! ### The encoder -/

/-- A payload or region: the code, low byte first, then the rest (R78). -/
def withCode (c : Half) (rest : List Byte) : List Byte := lo8 c :: hi8 c :: rest

/-- A feedback region: `FF FF`, the status byte, the rest (R80). -/
def withStatus (st : Byte) (rest : List Byte) : List Byte := withCode Config.feedbackCode (st :: rest)

/-- The bytes of a command frame with the given fields, in frame order (R71). -/
def frameBytes (len : Half) (g d : Byte) (payload : List Byte) (csum : Byte) : List Byte :=
  [Config.tagTx, lo8 Config.devId, hi8 Config.devId, lo8 len, hi8 len, g, d] ++ payload ++ [csum]

/-- The five header bytes of a reply with the given length (R72). -/
def headerBytes (len : Half) : List Byte :=
  [Config.tagRx, lo8 Config.devId, hi8 Config.devId, lo8 len, hi8 len]

/-- The encoder: the bytes of an instruction at its format's place, or its request. -/
def encode : Instr → Wire
  | .cf len g d p cs => .bytes .cf (frameBytes len g d p cs)
  | .rf len => .bytes .rf (headerBytes len)
  | .setVolume a => .bytes .cfCode (withCode 0x0080 a)
  | .setStandby a => .bytes .cfCode (withCode 0x0081 a)
  | .setMonitorSettings a => .bytes .cfCode (withCode 0x0096 a)
  | .setAddr a => .bytes .cfCode (withCode 0x7801 a)
  | .setRxEdid a => .bytes .cfCode (withCode 0x7850 a)
  | .downloadUserEdid a => .bytes .cfCode (withCode 0x7851 a)
  | .setBaudRate a => .bytes .cfCode (withCode 0x7879 a)
  | .getVolume a => .bytes .cfCode (withCode 0x8080 a)
  | .getStandby a => .bytes .cfCode (withCode 0x8081 a)
  | .getSource a => .bytes .cfCode (withCode 0x8082 a)
  | .getSignalInfo a => .bytes .cfCode (withCode 0x8090 a)
  | .getTiming a => .bytes .cfCode (withCode 0x8091 a)
  | .getSignalPackageInfo a => .bytes .cfCode (withCode 0x8092 a)
  | .getPicture a => .bytes .cfCode (withCode 0x8095 a)
  | .getMonitoringData a => .bytes .cfCode (withCode 0x8096 a)
  | .getPixelRgbData a => .bytes .cfCode (withCode 0x8097 a)
  | .getBatteryVoltage a => .bytes .cfCode (withCode 0x8098 a)
  | .getExt5vInput a => .bytes .cfCode (withCode 0x8099 a)
  | .getSignalStatus a => .bytes .cfCode (withCode 0x809F a)
  | .getDeviceAddr a => .bytes .cfCode (withCode 0xF801 a)
  | .getDeviceVersion a => .bytes .cfCode (withCode 0xF802 a)
  | .getRxEdidIndex a => .bytes .cfCode (withCode 0xF850 a)
  | .getRxEdidData a => .bytes .cfCode (withCode 0xF851 a)
  | .getFwInfo a => .bytes .cfCode (withCode 0xF858 a)
  | .feedback t => .bytes .rfCode (withCode Config.feedbackCode t)
  | .dataReply c p => .bytes .rfCode (withCode c p)
  | .fbOk r => .bytes .rfFeedback (withStatus 0x00 r)
  | .fbChecksumError r => .bytes .rfFeedback (withStatus 0x01 r)
  | .fbWrongCommand r => .bytes .rfFeedback (withStatus 0x02 r)
  | .fbExecError r => .bytes .rfFeedback (withStatus 0x03 r)
  | .fbInvalidMode r => .bytes .rfFeedback (withStatus 0x04 r)
  | .fbAddressError r => .bytes .rfFeedback (withStatus 0x05 r)
  | .fbUnknown st r => .bytes .rfFeedback (withStatus st r)
  | .send p => .request (.send p)
  | .recv => .request .recv
  | .rdcr n => .request (.rdcr n)
  | .reset g d k => .request (.reset g d k)

/-! ### Which row an instruction's bytes belong to, from the machine's fetch places -/

/-- The instruction of a SEND's payload: the table's command where its code is listed, else SEND itself. The two act
the same way (R107). -/
def instrOfPayload (p : List Byte) : Instr :=
  match decodeCommand p with
  | .ok i => i
  | .error _ => .send p

/-- The most specific row a complete reply region matches: a feedback status, else a code (R126, R129); where the
region holds no code only the row RF is left, and the instruction is the frame of that length (R127). -/
def instrOfRegion (len : Half) (r : List Byte) : Instr :=
  match decodeFeedback r with
  | .ok i => i
  | .error _ =>
    match decodeRegionCode r with
    | .ok i => i
    | .error _ => .rf len

/-- The three-byte rows: a command frame's or reply header's first three bytes with zeros after them, else a
feedback region. -/
def decodeThree (bs : List Byte) : Option Instr :=
  match decodeFrame (bs ++ [0, 0, 0, 0, 0]) with
  | .ok i => some i
  | .error _ =>
    match decodeHeader (bs ++ [0, 0]) with
    | .ok i => some i
    | .error _ => (decodeFeedback bs).toOption

/-- The two-byte rows: a command code, else a reply code. -/
def decodeTwo (bs : List Byte) : Option Instr :=
  match decodeCommand bs with
  | .ok i => some i
  | .error _ => (decodeRegionCode bs).toOption

/-- The instruction the decoder reads from a row's bits, numbered as spec/opcode_table.json numbers them: 24 bits are
a CF, RF or RF.feedback row, 16 bits a CF.code or RF.code row, and a HOST row has none (R88; entry 2). -/
def decodeTableWord (nbits w : Nat) : Option Instr :=
  if nbits = 24 then decodeThree (bytesOfNat 3 w)
  else if nbits = 16 then decodeTwo (bytesOfNat 2 w)
  else none

/-! ### The source's pure functions on whole frames -/

/-- `Encode(g, d, p)` without its last byte, `body` (R100). The length is a natural that must fit 16 bits; callers
keep `p` within `Config.txMax` (R101, R106). -/
def frameBody (g d : Byte) (p : List Byte) : List Byte :=
  let len := BitVec.ofNat 16 (p.length + Config.lenBias)
  [Config.tagTx, lo8 Config.devId, hi8 Config.devId, lo8 len, hi8 len, g, d] ++ p

/-- `Encode(g, d, p)`: the command frame of a payload (R100). -/
def encodeFrame (g d : Byte) (p : List Byte) : List Byte :=
  frameBody g d p ++ [checksum (frameBody g d p)]

/-- `ParseCommand(f)`: the parse of a command frame, the inverse of `encodeFrame` (R87). The block never runs it. -/
def parseCommand (f : List Byte) : Option (Byte × Byte × List Byte) :=
  match f with
  | t :: v0 :: v1 :: l0 :: l1 :: g :: d :: rest =>
    let len := (le16 l0 l1).toNat
    if f.length < 8 then none
    else if t ≠ Config.tagTx then none
    else if le16 v0 v1 ≠ Config.devId then none
    else if len < 3 ∨ f.length ≠ len + 5 then none
    else if sum8 f ≠ 0 then none
    else some (g, d, rest.take (len - 3))
  | _ => none

/-- The outcomes of `DecodeReply` (R120). -/
inductive ReplyOutcome where
  | badHeader (tag : Byte)
  | badDeviceId (devid : Half)
  | checksumMismatch (residue : Byte)
  | shortFrame (len : Half)
  | commandError (status : Byte)
  | ok (code : Half) (payload : List Byte)
  deriving DecidableEq, Repr

/-- The checks on a whole reply frame `frame` with length field `len` and region `r` (R120, R132). -/
def checkReply (rxck : Bool) (frame : List Byte) (len : Half) (r : List Byte) : ReplyOutcome :=
  if rxck = true ∧ sum8 frame ≠ 0 then .checksumMismatch (sum8 frame)
  else
    match r with
    | b0 :: b1 :: tail =>
      if le16 b0 b1 = Config.feedbackCode then
        match tail with
        | [] => .shortFrame len
        | st :: _ => if st ≠ Config.statusOk then .commandError st else .ok (le16 b0 b1) tail
      else .ok (le16 b0 b1) tail
    | _ => .shortFrame len

/-- `DecodeReply(s, rxck)`: the outcome and the bytes consumed, or `none` where `s` ends before the frame does (R120).
The RECV operation does the same byte by byte (R134). -/
def decodeReply (s : List Byte) (rxck : Bool) : Option (ReplyOutcome × Nat) :=
  match s with
  | t :: v0 :: v1 :: l0 :: l1 :: body =>
    let len := le16 l0 l1
    if t ≠ Config.tagRx then some (.badHeader t, 5)
    else if le16 v0 v1 ≠ Config.devId then some (.badDeviceId (le16 v0 v1), 5)
    else if body.length < len.toNat + 1 then none
    else some (checkReply rxck (s.take (len.toNat + 6)) len (body.take len.toNat), len.toNat + 6)
  | _ => none

end Sys2Proof
end

