-- ==== Sys2Proof/Machine/State.lean ====
section
/-! DEFINITION. The state of the block (R20), the environment's events and the ports' records as plain data, the
reasons a step can stop, and the state after reset (R46). -/

namespace Sys2Proof.Machine

/-- Why the model stops. Every constructor is safe: the spec says no rule reads what they guard (R46, V12), and the
invariant of Sys2Proof.Safety rules them out in every state a run reaches. -/
inductive Fault where
  /-- A transmit-byte event read a TXBUF entry that nothing has written. Raised by the fetch of a CF frame. Safe. -/
  | txbufNoValue
  /-- The end of a reply read an RXBUF entry that nothing has written. Raised by the fetch of a reply region. Safe. -/
  | rxbufNoValue
  /-- TXCNT or RXCNT stands outside the range R24 gives it in the phase. Raised by a transmit or receive event. Safe. -/
  | counterOutOfRange
  /-- TXBUF holds no command frame although PHASE is TX. Raised by the fetch of a CF frame. Safe. -/
  | txbufNotAFrame
  deriving DecidableEq, Repr

/-- Why the model answers no state. -/
inductive Refusal where
  /-- The instruction has no meaning yet. Raised by exec's arms only. Safe. -/
  | notModelled (mnemonic : String)
  /-- The instruction is not enabled in the current phase: the block takes no step (R166). Raised by every meaning
  outside its phase. Safe (entry 8). -/
  | notEnabled
  /-- No event the environment holds is enabled: the block stays where it is (R174). Raised by step. Safe (entry 8). -/
  | noEnabledEvent
  deriving DecidableEq, Repr

/-- `PHASE` (R20, R24). -/
inductive Phase where
  | idle
  | tx
  | rxhdr
  | rxbody
  deriving DecidableEq, Repr

/-- A kind of transport failure (R165, R246). -/
inductive FailKind where
  | timeout
  | disconnect
  | closed
  deriving DecidableEq, Repr

/-- The eight errors (R240). -/
inductive Error where
  | badHeader
  | badDeviceId
  | commandError
  | transportError
  | argumentError
  | checksumMismatch
  | shortFrame
  | noReply
  deriving DecidableEq, Repr

/-- A response on HOST.rsp (R41). -/
inductive Response where
  | sent
  | data (code : Half) (payload : List Byte)
  | val (v : BitVec 32)
  | err (errcode : BitVec 4) (info : Half)
  deriving DecidableEq, Repr

/-- An event of the environment (R165). -/
inductive Event where
  | reset (g d : Byte) (rxck : Bool)
  | reqSend (p : List Byte)
  | reqRecv
  | reqRdcr (n : Nat)
  | txAcc
  | rxByte (b : Byte)
  | xfail (kind : FailKind)
  deriving DecidableEq, Repr

/-- `RXHDR[0..4]` (R29). -/
structure RxHdr where
  tag : Byte
  devLo : Byte
  devHi : Byte
  lenLo : Byte
  lenHi : Byte
  deriving DecidableEq, Repr

/-- A private byte array (R42, R43): its written entries by rising address. An unlisted entry has no value (entry 5). -/
abbrev Memory := List Host.Cell

/-- The addresses rise strictly from `lo` and stay below `size`. -/
def Memory.wfFrom (size : Nat) : Nat → List Host.Cell → Bool
  | _, [] => true
  | lo, (a, _) :: m => decide (lo ≤ a) && decide (a < size) && Memory.wfFrom size (a + 1) m

/-- The canonical form: strictly rising addresses below the array's size. An unlisted entry has no value, so no listed
entry can equal it. -/
def Memory.wf (size : Nat) (m : Memory) : Bool := Memory.wfFrom size 0 m

/-- The whole state: the components of R20 in its order, then the ports' records and the free-value counter, which
are the model's own (entries 1, 6, 9). -/
structure State where
  /-- GADDR (R21) -/
  gaddr : Byte
  /-- DADDR (R22) -/
  daddr : Byte
  /-- RXCK (R23) -/
  rxck : Bool
  /-- PHASE (R24) -/
  phase : Phase
  /-- TXLEN (R25) -/
  txlen : Count
  /-- TXCNT (R25) -/
  txcnt : Count
  /-- RXCNT (R27) -/
  rxcnt : Count
  /-- RXLEN (R28) -/
  rxlen : Half
  /-- TXSUM (R26) -/
  txsum : Byte
  /-- RXSUM (R29) -/
  rxsum : Byte
  /-- RXCS (R29) -/
  rxcs : Byte
  /-- RXHDR (R29) -/
  rxhdr : RxHdr
  /-- TXBUF (R42) -/
  txbuf : Memory
  /-- RXBUF (R43) -/
  rxbuf : Memory
  /-- ERRCODE (R35) -/
  errcode : BitVec 4
  /-- ERRINFO (R36) -/
  errinfo : Half
  /-- DESYNC (R40) -/
  desync : Bool
  /-- RCODE (R37) -/
  rcode : Half
  /-- RSTAT (R38) -/
  rstat : Byte
  /-- RLEN (R39) -/
  rlen : Half
  /-- the events the environment still wants to deliver, the model's own (R165, R166, R47; entry 1) -/
  sched : List Event
  /-- every byte pushed on TX so far, the model's own (R57; entry 9) -/
  txStream : List Byte
  /-- every byte pulled from RX so far, the model's own (R57; entry 9) -/
  rxPulled : List Byte
  /-- every response sent on HOST.rsp so far, the model's own (R41; entry 9) -/
  responses : List Response
  /-- which free value is used next, the model's own (entry 6) -/
  freeCount : Nat
  deriving DecidableEq, Repr

/-- The state after reset (R46). The straps are those of Config (entry 3), RXHDR is a DESIGN CHOICE (entry 4), and no
event is pending (entry 1). -/
def State.reset : State where
  gaddr := Config.strapGaddr
  daddr := Config.strapDaddr
  rxck := Config.strapRxck
  phase := .idle
  txlen := 0
  txcnt := 0
  rxcnt := 0
  rxlen := 0
  txsum := 0
  rxsum := 0
  rxcs := 0
  rxhdr := ⟨0, 0, 0, 0, 0⟩
  txbuf := []
  rxbuf := []
  errcode := 0
  errinfo := 0
  desync := false
  rcode := 0
  rstat := 0
  rlen := 0
  sched := []
  txStream := []
  rxPulled := []
  responses := []
  freeCount := 0

end Sys2Proof.Machine
end

