-- ==== Sys2Proof/Machine/Operands.lean ====
section
/-! DEFINITION. Reading and writing operands: entries of a buffer, header bytes, whole frames and regions. -/

namespace Sys2Proof.Machine

/-- The byte at an address, or nothing where the address has no value. -/
def Memory.read : List Host.Cell → Nat → Option Byte
  | [], _ => none
  | (k, v) :: m, a => if k = a then some v else Memory.read m a

/-- Writes one byte, keeping the addresses in rising order. -/
def Memory.write : List Host.Cell → Nat → Byte → Memory
  | [], a, b => [(a, b)]
  | (k, v) :: m, a, b =>
    if a < k then (a, b) :: (k, v) :: m
    else if a = k then (k, b) :: m
    else (k, v) :: Memory.write m a b

/-- Writes a byte string at rising addresses from `a`. -/
def Memory.writeAll (m : Memory) (a : Nat) : List Byte → Memory
  | [] => m
  | b :: bs => Memory.writeAll (Memory.write m a b) (a + 1) bs

/-- The `n` bytes from `a` on, or nothing where one of them has no value. -/
def Memory.readAll (m : Memory) : Nat → Nat → Option (List Byte)
  | _, 0 => some []
  | a, n + 1 =>
    match Memory.read m a, Memory.readAll m (a + 1) n with
    | some b, some bs => some (b :: bs)
    | _, _ => none

/-- `RXHDR` as a byte string, in arrival order (R29). -/
def RxHdr.bytes (h : RxHdr) : List Byte := [h.tag, h.devLo, h.devHi, h.lenLo, h.lenHi]

/-- `RXHDR[i] <- b` (R134), or nothing where there is no such header byte. -/
def RxHdr.set (h : RxHdr) (i : Nat) (b : Byte) : Option RxHdr :=
  match i with
  | 0 => some { h with tag := b }
  | 1 => some { h with devLo := b }
  | 2 => some { h with devHi := b }
  | 3 => some { h with lenLo := b }
  | 4 => some { h with lenHi := b }
  | _ => none

/-- The frame being transmitted, `TXBUF[0..TXLEN)` (R42). -/
def txFrame (s : State) : Option (List Byte) := Memory.readAll s.txbuf 0 s.txlen.toNat

/-- The reply's payload region, `RXBUF[0..RXLEN)` (R43). -/
def rxRegion (s : State) : Option (List Byte) := Memory.readAll s.rxbuf 0 s.rxlen.toNat

/-- A command's payload: its code's two bytes, low byte first, and its arguments (R78, R90). -/
def commandPayload (code : Half) (args : List Byte) : List Byte := withCode code args

/-- The argument bytes of a baud rate: the low three bytes of the 32-bit little-endian value (R191, R227). -/
def baudArgs (v : BitVec 32) : List Byte := [v.extractLsb' 0 8, v.extractLsb' 8 8, v.extractLsb' 16 8]

end Sys2Proof.Machine
end

