-- ==== Sys2Proof/Machine/Flags.lean ====
section
/-! DEFINITION. The flags BUSY, RPLY and DESYNC (R34, R40), the codes of phases, errors and transport failures, the
control registers (R30 to R39), and the reasons a feedback status stands for (R211 to R216). -/

namespace Sys2Proof.Machine

/-- The code of `PHASE` (R20, R24). -/
def Phase.code : Phase → BitVec 2
  | .idle => 0
  | .tx => 1
  | .rxhdr => 2
  | .rxbody => 3

/-- `ERRCODE` of an error (R240). -/
def Error.code : Error → BitVec 4
  | .badHeader => 1
  | .badDeviceId => 2
  | .commandError => 3
  | .transportError => 4
  | .argumentError => 5
  | .checksumMismatch => 6
  | .shortFrame => 7
  | .noReply => 8

/-- Whether an error sets `DESYNC` (R240, R250, R258). -/
def Error.desyncs : Error → Bool
  | .badHeader => true
  | .badDeviceId => true
  | .commandError => false
  | .transportError => true
  | .argumentError => false
  | .checksumMismatch => true
  | .shortFrame => true
  | .noReply => false

/-- The code of a transport failure in `ERRINFO` (R246). -/
def FailKind.code : FailKind → Half
  | .timeout => 1
  | .disconnect => 2
  | .closed => 3

/-- `BUSY`: 1 exactly when `PHASE != IDLE` (R34, R40). -/
def busy (s : State) : Bool := s.phase != .idle

/-- `ReplyExpected(g, d)`: the group address plays no part (R6, R153). -/
def replyExpected (_g d : Byte) : Bool := d == Config.direct

/-- `RPLY` (R34). -/
def rply (s : State) : Bool := replyExpected s.gaddr s.daddr

/-- `CR[0]` ADDR: DADDR in bits 15 to 8, GADDR in bits 7 to 0 (R30, R31). -/
def crAddr (s : State) : BitVec 16 := s.daddr ++ s.gaddr

/-- `CR[1]` CFG: RXCK in bit 0, bits 7 to 1 read 0 (R30, R32). -/
def crCfg (s : State) : BitVec 8 := (0 : BitVec 7) ++ BitVec.ofBool s.rxck

/-- `CR[2]` ID: DEVID, TAG_RX, TAG_TX, hardwired (R30, R33). -/
def crId : BitVec 32 := Config.devId ++ Config.tagRx ++ Config.tagTx

/-- `CR[3]` STATUS: bits 7 to 5 read 0, then RPLY, PHASE, DESYNC, BUSY (R30, R34). -/
def crStatus (s : State) : BitVec 8 :=
  (0 : BitVec 3) ++ BitVec.ofBool (rply s) ++ s.phase.code ++ BitVec.ofBool s.desync ++ BitVec.ofBool (busy s)

/-- `CR[4]` ERR: ERRCODE in bits 3 to 0, bits 7 to 4 read 0 (R30, R35). -/
def crErr (s : State) : BitVec 8 := (0 : BitVec 4) ++ s.errcode

/-- `CR[n]`, zero-extended to 32 bits; a number above 8 reads 0 (R30, R176). -/
def controlRegister (n : Nat) (s : State) : BitVec 32 :=
  match n with
  | 0 => (crAddr s).setWidth 32
  | 1 => (crCfg s).setWidth 32
  | 2 => crId
  | 3 => (crStatus s).setWidth 32
  | 4 => (crErr s).setWidth 32
  | 5 => s.errinfo.setWidth 32
  | 6 => s.rcode.setWidth 32
  | 7 => s.rstat.setWidth 32
  | 8 => s.rlen.setWidth 32
  | _ => 0

/-- The named reasons of a feedback status (R83, R243). -/
inductive Reason where
  | checksumError
  | wrongCommand
  | executionError
  | invalidMode
  | addressError
  | unknown
  deriving DecidableEq, Repr

/-- The reason of a status byte, a function of the byte alone; status 0 has none (R129, R210 to R216). -/
def reasonOf (status : Byte) : Option Reason :=
  match status.toNat with
  | 0 => none
  | 1 => some .checksumError
  | 2 => some .wrongCommand
  | 3 => some .executionError
  | 4 => some .invalidMode
  | 5 => some .addressError
  | _ => some .unknown

/-- The reason's name in the source (R83, R211 to R216, R243). -/
def Reason.name : Reason → String
  | .checksumError => "checksum error"
  | .wrongCommand => "wrong command"
  | .executionError => "execution error"
  | .invalidMode => "invalid mode"
  | .addressError => "address error"
  | .unknown => "unknown"

/-- The reason's display string, the argument of `ProtocolError::CommandError`: the source gives exactly that of
WRONG_COMMAND (R212). Every other one is a free value (entry 15). -/
def Reason.text : Reason → String
  | .wrongCommand => "Wrong command"
  | r => Config.reasonText r.name

/-- Whether an event may happen in a phase: the table of R166. -/
def enabled (ph : Phase) : Event → Bool
  | .reset _ _ _ => true
  | .reqSend _ => ph == .idle
  | .reqRecv => ph == .idle
  | .reqRdcr _ => ph == .idle
  | .txAcc => ph == .tx
  | .rxByte _ => ph == .rxhdr || ph == .rxbody
  | .xfail _ => ph != .idle

end Sys2Proof.Machine
end

