-- ==== Sys2Proof/Machine/Ops.lean ====
section
/-! DEFINITION. The shared operations: raising an error and ending an operation (R250, R172), accepting a request,
pushing and pulling a byte, accepting a header, and the checks at the end of a reply (R132). Every meaning is one line
or a few over these. -/

namespace Sys2Proof.Machine

/-- `raise E(info)`, the block's trap entry (R250): ERRCODE, ERRINFO, DESYNC for five of the errors, PHASE = IDLE, the
ERR response. Nothing else is saved and nothing else changes. -/
def raise (e : Error) (info : Half) (s : State) : State :=
  { s with
    errcode := e.code
    errinfo := info
    desync := s.desync || e.desyncs
    phase := .idle
    responses := s.responses ++ [.err e.code info] }

/-- The end of an operation without an error, which stands where a processor has a return (R172, R177, R254): PHASE =
IDLE and the response, in the same step. -/
def endOperation (r : Response) (s : State) : State :=
  { s with phase := .idle, responses := s.responses ++ [r] }

/-- What accepting a SEND or RECV clears (R35, R36). -/
def clearError (s : State) : State := { s with errcode := 0, errinfo := 0 }

/-- The frame of a payload is built into TXBUF and its transmission begins (R105, R167). -/
def startFrame (p : List Byte) (s : State) : State :=
  { s with
    txbuf := Memory.writeAll s.txbuf 0 (encodeFrame s.gaddr s.daddr p)
    txlen := BitVec.ofNat 17 (p.length + 8)
    txcnt := 0
    txsum := 0
    phase := .tx }

/-- The SEND request (R105, R106, R167): only in IDLE; a payload of more than P_TXMAX bytes is refused with
ArgumentError before any byte is pushed. -/
def acceptSend (p : List Byte) (s : State) : Host.Outcome State Fault Refusal :=
  match s.phase with
  | .idle =>
    if Config.txMax < p.length then .next (raise .argumentError 0 (clearError s))
    else .next (startFrame p (clearError s))
  | _ => .refused .notEnabled

/-- A RECV begins (R134, R169). -/
def startReply (s : State) : State := { s with rxcnt := 0, rxsum := 0, phase := .rxhdr }

/-- The RECV request (R134, R136, R154, R169): only in IDLE; refused with NoReply when no reply is expected. RXCNT is
left as R134 leaves it (entry 10). -/
def acceptRecv (s : State) : Host.Outcome State Fault Refusal :=
  match s.phase with
  | .idle =>
    if replyExpected s.gaddr s.daddr then .next (startReply (clearError s))
    else .next (raise .noReply (s.daddr.setWidth 16) (clearError s))
  | _ => .refused .notEnabled

/-- `TxPush(b)` with its sum and count (R105, R57). -/
def pushByte (b : Byte) (s : State) : State :=
  { s with txStream := s.txStream ++ [b], txsum := s.txsum + b, txcnt := s.txcnt + 1 }

/-- The transport takes the next byte of the frame; the last one ends the SEND with SENT (R105, R108, R168). -/
def transmit (frame : List Byte) (s : State) : Host.Outcome State Fault Refusal :=
  match s.phase with
  | .tx =>
    match frame[s.txcnt.toNat]? with
    | none => .fault .counterOutOfRange
    | some b =>
      let s1 := pushByte b s
      .next (if s1.txcnt = s1.txlen then endOperation .sent s1 else s1)
  | _ => .refused .notEnabled

/-- `RxPull()` with its sum and count (R134, R57). -/
def pullByte (b : Byte) (s : State) : State :=
  { s with rxPulled := s.rxPulled ++ [b], rxsum := s.rxsum + b, rxcnt := s.rxcnt + 1 }

/-- The header with a byte stored (R134). -/
def storeHeader (h : RxHdr) (s : State) : State := { s with rxhdr := h }

/-- `RXBUF[a] <- b` (R134). -/
def storeRegion (a : Nat) (b : Byte) (s : State) : State := { s with rxbuf := Memory.write s.rxbuf a b }

/-- `RXCS <- b` (R134). -/
def storeChecksum (b : Byte) (s : State) : State := { s with rxcs := b }

/-- A received byte is stored at its place: RXHDR in RXHDR; RXBUF, or RXCS for the frame's last byte, in RXBODY
(R134, R170, R171). Nothing where RXCNT is outside the phase's range. -/
def storeByte (b : Byte) (s : State) : Option State :=
  match s.phase with
  | .rxhdr => (s.rxhdr.set s.rxcnt.toNat b).map fun h => storeHeader h s
  | .rxbody =>
    if s.rxcnt.toNat < 5 then none
    else if s.rxcnt.toNat < 5 + s.rxlen.toNat then some (storeRegion (s.rxcnt.toNat - 5) b s)
    else if s.rxcnt.toNat = 5 + s.rxlen.toNat then some (storeChecksum b s)
    else none
  | _ => none

/-- Both header checks have passed: the length is captured and the body begins (R124). -/
def acceptHeader (len : Half) (s : State) : State := { s with rxlen := len, rlen := len, phase := .rxbody }

/-- The whole reply frame has been pulled (R134: `RXCNT = RXLEN + 6`). -/
def replyComplete (s : State) : Bool := s.phase == .rxbody && s.rxcnt.toNat == s.rxlen.toNat + 6

/-- The end of a reply: the validator first (R131, R132 item 5), then what the reply itself does. -/
def endReply (act : State → State) (s : State) : Host.Outcome State Fault Refusal :=
  if replyComplete s then
    .next (if s.rxck && s.rxsum != 0 then raise .checksumMismatch (s.rxsum.setWidth 16) s else act s)
  else .refused .notEnabled

/-- The reply is too short for its code or its status (R127). -/
def shortFrame (s : State) : State := raise .shortFrame s.rxlen s

/-- The code of the reply is examined (R126). -/
def noteCode (code : Half) (s : State) : State := { s with rcode := code }

/-- The code and status of a feedback reply are examined (R129). -/
def noteFeedback (st : Byte) (s : State) : State := { s with rcode := Config.feedbackCode, rstat := st }

/-- The RECV succeeds with the reply's code and its region without the code (R128). -/
def deliver (code : Half) (payload : List Byte) (s : State) : State := endOperation (.data code payload) s

/-- A feedback reply that accepts the command (R130, R210). -/
def feedbackAccepts (rest : List Byte) (s : State) : State :=
  deliver Config.feedbackCode (Config.statusOk :: rest) (noteFeedback Config.statusOk s)

/-- A feedback reply that rejects the command (R129, R211 to R216). -/
def feedbackRejects (st : Byte) (s : State) : State := raise .commandError (st.setWidth 16) (noteFeedback st s)

/-- RXHDR after a RESET event, which the spec leaves unspecified: five free values (R46; entry 4). -/
def freshHeader (s : State) : RxHdr :=
  ⟨Config.freeByte s.freeCount, Config.freeByte (s.freeCount + 1), Config.freeByte (s.freeCount + 2),
    Config.freeByte (s.freeCount + 3), Config.freeByte (s.freeCount + 4)⟩

/-- The RESET event (R46, R173, R271): every component of the block as R46's table says, the ports' records and the
environment untouched. -/
def resetBlock (g d : Byte) (k : Bool) (s : State) : State :=
  { gaddr := g
    daddr := d
    rxck := k
    phase := .idle
    txlen := 0
    txcnt := 0
    rxcnt := 0
    rxlen := 0
    txsum := 0
    rxsum := 0
    rxcs := 0
    rxhdr := freshHeader s
    txbuf := []
    rxbuf := []
    errcode := 0
    errinfo := 0
    desync := false
    rcode := 0
    rstat := 0
    rlen := 0
    sched := s.sched
    txStream := s.txStream
    rxPulled := s.rxPulled
    responses := s.responses
    freeCount := s.freeCount + 5 }

end Sys2Proof.Machine
end

