-- ==== Sys2Proof/Machine/Commands.lean ====
section
/-! DEFINITION. The meanings of the 24 command codes (R82, R185 to R208). A command is one SEND of its code, low byte
first, and its argument bytes (R90); the block does not look at either (R107), so nothing else happens: SET_ADDR
changes no register of the block (R188), SET_STANDBY no state of it (R266). -/

namespace Sys2Proof.Machine

/-- SET_VOLUME (R185, R90). -/
def execSetVolume (args : List Byte) (s : State) : Host.Outcome State Fault Refusal :=
  acceptSend (commandPayload 0x0080 args) s

/-- SET_STANDBY (R186, R90). -/
def execSetStandby (args : List Byte) (s : State) : Host.Outcome State Fault Refusal :=
  acceptSend (commandPayload 0x0081 args) s

/-- SET_MONITOR_SETTINGS (R187, R90). -/
def execSetMonitorSettings (args : List Byte) (s : State) : Host.Outcome State Fault Refusal :=
  acceptSend (commandPayload 0x0096 args) s

/-- SET_ADDR (R188, R90). GADDR and DADDR do not follow (R157, R285). -/
def execSetAddr (args : List Byte) (s : State) : Host.Outcome State Fault Refusal :=
  acceptSend (commandPayload 0x7801 args) s

/-- SET_RX_EDID (R189, R90). -/
def execSetRxEdid (args : List Byte) (s : State) : Host.Outcome State Fault Refusal :=
  acceptSend (commandPayload 0x7850 args) s

/-- DOWNLOAD_USER_EDID (R190, R90). -/
def execDownloadUserEdid (args : List Byte) (s : State) : Host.Outcome State Fault Refusal :=
  acceptSend (commandPayload 0x7851 args) s

/-- SET_BAUD_RATE (R191, R90). A rate's argument bytes are `baudArgs`. -/
def execSetBaudRate (args : List Byte) (s : State) : Host.Outcome State Fault Refusal :=
  acceptSend (commandPayload 0x7879 args) s

/-- GET_VOLUME (R192, R90). -/
def execGetVolume (args : List Byte) (s : State) : Host.Outcome State Fault Refusal :=
  acceptSend (commandPayload 0x8080 args) s

/-- GET_STANDBY (R193, R90). -/
def execGetStandby (args : List Byte) (s : State) : Host.Outcome State Fault Refusal :=
  acceptSend (commandPayload 0x8081 args) s

/-- GET_SOURCE (R194, R90). -/
def execGetSource (args : List Byte) (s : State) : Host.Outcome State Fault Refusal :=
  acceptSend (commandPayload 0x8082 args) s

/-- GET_SIGNAL_INFO (R195, R90). -/
def execGetSignalInfo (args : List Byte) (s : State) : Host.Outcome State Fault Refusal :=
  acceptSend (commandPayload 0x8090 args) s

/-- GET_TIMING (R196, R90). -/
def execGetTiming (args : List Byte) (s : State) : Host.Outcome State Fault Refusal :=
  acceptSend (commandPayload 0x8091 args) s

/-- GET_SIGNAL_PACKAGE_INFO (R197, R90). -/
def execGetSignalPackageInfo (args : List Byte) (s : State) : Host.Outcome State Fault Refusal :=
  acceptSend (commandPayload 0x8092 args) s

/-- GET_PICTURE (R198, R90). The block counts no fragments (R139). -/
def execGetPicture (args : List Byte) (s : State) : Host.Outcome State Fault Refusal :=
  acceptSend (commandPayload 0x8095 args) s

/-- GET_MONITORING_DATA (R199, R90). -/
def execGetMonitoringData (args : List Byte) (s : State) : Host.Outcome State Fault Refusal :=
  acceptSend (commandPayload 0x8096 args) s

/-- GET_PIXEL_RGB_DATA (R200, R90). -/
def execGetPixelRgbData (args : List Byte) (s : State) : Host.Outcome State Fault Refusal :=
  acceptSend (commandPayload 0x8097 args) s

/-- GET_BATTERY_VOLTAGE (R201, R90). -/
def execGetBatteryVoltage (args : List Byte) (s : State) : Host.Outcome State Fault Refusal :=
  acceptSend (commandPayload 0x8098 args) s

/-- GET_EXT_5V_INPUT (R202, R90). -/
def execGetExt5vInput (args : List Byte) (s : State) : Host.Outcome State Fault Refusal :=
  acceptSend (commandPayload 0x8099 args) s

/-- GET_SIGNAL_STATUS (R203, R90). -/
def execGetSignalStatus (args : List Byte) (s : State) : Host.Outcome State Fault Refusal :=
  acceptSend (commandPayload 0x809F args) s

/-- GET_DEVICE_ADDR (R204, R90). -/
def execGetDeviceAddr (args : List Byte) (s : State) : Host.Outcome State Fault Refusal :=
  acceptSend (commandPayload 0xF801 args) s

/-- GET_DEVICE_VERSION (R205, R90). -/
def execGetDeviceVersion (args : List Byte) (s : State) : Host.Outcome State Fault Refusal :=
  acceptSend (commandPayload 0xF802 args) s

/-- GET_RX_EDID_INDEX (R206, R90). -/
def execGetRxEdidIndex (args : List Byte) (s : State) : Host.Outcome State Fault Refusal :=
  acceptSend (commandPayload 0xF850 args) s

/-- GET_RX_EDID_DATA (R207, R90). -/
def execGetRxEdidData (args : List Byte) (s : State) : Host.Outcome State Fault Refusal :=
  acceptSend (commandPayload 0xF851 args) s

/-- GET_FW_INFO (R208, R90). -/
def execGetFwInfo (args : List Byte) (s : State) : Host.Outcome State Fault Refusal :=
  acceptSend (commandPayload 0xF858 args) s

end Sys2Proof.Machine
end

