-- ==== Sys2Proof/Machine/Frames.lean ====
section
/-! DEFINITION. The meanings of the two frame rows, CF and RF. -/

namespace Sys2Proof.Machine

/-- CF (R71, R105, R108, R168): the frame in transmission; the transport takes its byte number TXCNT, and the checksum
byte, the last one, ends the SEND. -/
def execCf (len : Half) (g d : Byte) (payload : List Byte) (csum : Byte) (s : State) :
    Host.Outcome State Fault Refusal :=
  transmit (frameBytes len g d payload csum) s

/-- RF (R72): at the fifth header byte the header is accepted and its length captured (R124, R170). At the end of the
frame it is the row that is left where the region holds no code, and the frame is short (R127). -/
def execRf (len : Half) (s : State) : Host.Outcome State Fault Refusal :=
  match s.phase with
  | .rxhdr => if s.rxcnt.toNat = 5 then .next (acceptHeader len s) else .refused .notEnabled
  | .rxbody => if s.rxlen.toNat < 2 then endReply shortFrame s else .refused .notEnabled
  | _ => .refused .notEnabled

end Sys2Proof.Machine
end

