-- ==== Sys2Proof/Machine/HostOps.lean ====
section
/-! DEFINITION. The meanings of the HOST rows: SEND, RECV, RDCR, RESET. -/

namespace Sys2Proof.Machine

/-- SEND (R105, R106, R107, R110, R167). -/
def execSend (p : List Byte) (s : State) : Host.Outcome State Fault Refusal := acceptSend p s

/-- RECV (R134, R136, R154, R169). -/
def execRecv (s : State) : Host.Outcome State Fault Refusal := acceptRecv s

/-- RDCR (R176): only in IDLE; it completes in the step that accepts it and writes no register. -/
def execRdcr (n : Nat) (s : State) : Host.Outcome State Fault Refusal :=
  match s.phase with
  | .idle => .next (endOperation (.val (controlRegister n s)) s)
  | _ => .refused .notEnabled

/-- RESET (R46, R173, R270 to R273): enabled in every phase, no response. -/
def execReset (g d : Byte) (rxck : Bool) (s : State) : Host.Outcome State Fault Refusal :=
  .next (resetBlock g d rxck s)

end Sys2Proof.Machine
end

