-- ==== Sys2Proof/Machine/Replies.lean ====
section
/-! DEFINITION. The meanings of the reply rows, RF.code and RF.feedback: what the block does at the end of a reply
whose payload region is the row's (R126 to R132, R209 to R216). The validator's check comes first in each. -/

namespace Sys2Proof.Machine

/-- FEEDBACK (R209, R129, R130, R127): the status byte decides; without one the frame is short, the code being noted. -/
def execFeedback (tail : List Byte) (s : State) : Host.Outcome State Fault Refusal :=
  endReply (fun s =>
    match tail with
    | [] => shortFrame (noteCode Config.feedbackCode s)
    | st :: rest => if st = Config.statusOk then feedbackAccepts rest s else feedbackRejects st s) s

/-- DATA_REPLY (R126, R128, R135): the code is noted and returned with the rest of the region, compared with nothing. -/
def execDataReply (code : Half) (payload : List Byte) (s : State) : Host.Outcome State Fault Refusal :=
  endReply (fun s => deliver code payload (noteCode code s)) s

/-- FB_OK (R210, R130). -/
def execFbOk (rest : List Byte) (s : State) : Host.Outcome State Fault Refusal :=
  endReply (feedbackAccepts rest) s

/-- FB_CHECKSUM_ERROR (R211, R129). The bytes after the status are consumed and not returned (V6). -/
def execFbChecksumError (_rest : List Byte) (s : State) : Host.Outcome State Fault Refusal :=
  endReply (feedbackRejects 0x01) s

/-- FB_WRONG_COMMAND (R212, R129). The bytes after the status are consumed and not returned (V6). -/
def execFbWrongCommand (_rest : List Byte) (s : State) : Host.Outcome State Fault Refusal :=
  endReply (feedbackRejects 0x02) s

/-- FB_EXEC_ERROR (R213, R129). The bytes after the status are consumed and not returned (V6). -/
def execFbExecError (_rest : List Byte) (s : State) : Host.Outcome State Fault Refusal :=
  endReply (feedbackRejects 0x03) s

/-- FB_INVALID_MODE (R214, R129). The bytes after the status are consumed and not returned (V6). -/
def execFbInvalidMode (_rest : List Byte) (s : State) : Host.Outcome State Fault Refusal :=
  endReply (feedbackRejects 0x04) s

/-- FB_ADDRESS_ERROR (R215, R129). The bytes after the status are consumed and not returned (V6). -/
def execFbAddressError (_rest : List Byte) (s : State) : Host.Outcome State Fault Refusal :=
  endReply (feedbackRejects 0x05) s

/-- FB_UNKNOWN (R216, R129): the status byte itself is the error's detail. -/
def execFbUnknown (status : Byte) (_rest : List Byte) (s : State) : Host.Outcome State Fault Refusal :=
  endReply (feedbackRejects status) s

end Sys2Proof.Machine
end

