-- ==== Sys2Proof/Machine/Dispatch.lean ====
section
/-! DEFINITION. exec: one arm for each constructor of Instr, each one call of its meaning. -/

namespace Sys2Proof.Machine

def exec (i : Instr) (s : State) : Host.Outcome State Fault Refusal :=
  match i with
  | .cf len g d payload csum => Sys2Proof.Machine.execCf len g d payload csum s
  | .rf len => Sys2Proof.Machine.execRf len s
  | .setVolume args => Sys2Proof.Machine.execSetVolume args s
  | .setStandby args => Sys2Proof.Machine.execSetStandby args s
  | .setMonitorSettings args => Sys2Proof.Machine.execSetMonitorSettings args s
  | .setAddr args => Sys2Proof.Machine.execSetAddr args s
  | .setRxEdid args => Sys2Proof.Machine.execSetRxEdid args s
  | .downloadUserEdid args => Sys2Proof.Machine.execDownloadUserEdid args s
  | .setBaudRate args => Sys2Proof.Machine.execSetBaudRate args s
  | .getVolume args => Sys2Proof.Machine.execGetVolume args s
  | .getStandby args => Sys2Proof.Machine.execGetStandby args s
  | .getSource args => Sys2Proof.Machine.execGetSource args s
  | .getSignalInfo args => Sys2Proof.Machine.execGetSignalInfo args s
  | .getTiming args => Sys2Proof.Machine.execGetTiming args s
  | .getSignalPackageInfo args => Sys2Proof.Machine.execGetSignalPackageInfo args s
  | .getPicture args => Sys2Proof.Machine.execGetPicture args s
  | .getMonitoringData args => Sys2Proof.Machine.execGetMonitoringData args s
  | .getPixelRgbData args => Sys2Proof.Machine.execGetPixelRgbData args s
  | .getBatteryVoltage args => Sys2Proof.Machine.execGetBatteryVoltage args s
  | .getExt5vInput args => Sys2Proof.Machine.execGetExt5vInput args s
  | .getSignalStatus args => Sys2Proof.Machine.execGetSignalStatus args s
  | .getDeviceAddr args => Sys2Proof.Machine.execGetDeviceAddr args s
  | .getDeviceVersion args => Sys2Proof.Machine.execGetDeviceVersion args s
  | .getRxEdidIndex args => Sys2Proof.Machine.execGetRxEdidIndex args s
  | .getRxEdidData args => Sys2Proof.Machine.execGetRxEdidData args s
  | .getFwInfo args => Sys2Proof.Machine.execGetFwInfo args s
  | .feedback tail => Sys2Proof.Machine.execFeedback tail s
  | .dataReply code payload => Sys2Proof.Machine.execDataReply code payload s
  | .fbOk rest => Sys2Proof.Machine.execFbOk rest s
  | .fbChecksumError rest => Sys2Proof.Machine.execFbChecksumError rest s
  | .fbWrongCommand rest => Sys2Proof.Machine.execFbWrongCommand rest s
  | .fbExecError rest => Sys2Proof.Machine.execFbExecError rest s
  | .fbInvalidMode rest => Sys2Proof.Machine.execFbInvalidMode rest s
  | .fbAddressError rest => Sys2Proof.Machine.execFbAddressError rest s
  | .fbUnknown status rest => Sys2Proof.Machine.execFbUnknown status rest s
  | .send p => Sys2Proof.Machine.execSend p s
  | .recv => Sys2Proof.Machine.execRecv s
  | .rdcr n => Sys2Proof.Machine.execRdcr n s
  | .reset g d rxck => Sys2Proof.Machine.execReset g d rxck s

end Sys2Proof.Machine
end

