-- ==== Sys2Proof/Machine/Fetch.lean ====
section
/-! DEFINITION. From the environment's events to instructions: which pending event happens next (R165, R166), and
what it makes the block fetch. A SEND request fetches the command its payload names; TXACC fetches the frame in TXBUF;
the fifth byte of a reply fetches the header in RXHDR; the last byte of a reply fetches the region in RXBUF (entry 7).
An event that completes no instruction changes the state by itself. -/

namespace Sys2Proof.Machine

/-- The first pending event that is enabled, and the others in their order. An event that is not enabled stays with its
source (R166; entry 1). -/
def takeEnabled (ph : Phase) : List Event → Option (Event × List Event)
  | [] => none
  | e :: es =>
    if enabled ph e then some (e, es)
    else
      match takeEnabled ph es with
      | none => none
      | some (e', es') => some (e', e :: es')

/-- The event that happens next, and the state with it taken from the schedule. -/
def nextEvent (s : State) : Option (Event × State) :=
  match takeEnabled s.phase s.sched with
  | none => none
  | some (e, es) => some (e, { s with sched := es })

/-- What an event makes the block do. -/
inductive Fetched where
  /-- an instruction runs in this state -/
  | run (i : Instr) (s : State)
  /-- no instruction completes; this is the state after the event -/
  | pass (s : State)
  /-- the event reads what has no value -/
  | stop (f : Fault)
  deriving DecidableEq, Repr

/-- TXACC: the frame in TXBUF (R105, R168). -/
def fetchFrame (s : State) : Fetched :=
  match txFrame s with
  | none => .stop .txbufNoValue
  | some f =>
    match decode (.bytes .cf f) with
    | .ok i => .run i s
    | .error _ => .stop .txbufNotAFrame

/-- The fifth header byte has been pulled: the tag check, then the device-class check (R122, R123), then the header. -/
def fetchHeader (s : State) : Fetched :=
  match decode (.bytes .rf s.rxhdr.bytes) with
  | .ok i => .run i s
  | .error (.badTag t) => .pass (raise .badHeader (t.setWidth 16) s)
  | .error (.badDeviceId v) => .pass (raise .badDeviceId v s)
  | .error _ => .stop .counterOutOfRange

/-- The last byte of the frame has been pulled: the region in RXBUF (R126 to R129). -/
def fetchRegion (s : State) : Fetched :=
  match rxRegion s with
  | none => .stop .rxbufNoValue
  | some r => .run (instrOfRegion s.rxlen r) s

/-- RXBYTE: the byte is stored, summed and counted; then, at the end of the header or of the frame, there is something
to run (R134, R170, R171). -/
def fetchByte (b : Byte) (s : State) : Fetched :=
  match storeByte b s with
  | none => .stop .counterOutOfRange
  | some s1 =>
    let s2 := pullByte b s1
    match s.phase with
    | .rxhdr => if s2.rxcnt.toNat = 5 then fetchHeader s2 else .pass s2
    | _ => if replyComplete s2 then fetchRegion s2 else .pass s2

/-- What an enabled event makes the block do; `s` is the state with the event taken (R165, R167 to R176). -/
def fetch (e : Event) (s : State) : Fetched :=
  match e with
  | .reset g d k => .run (decodeRequest (.reset g d k)) s
  | .reqSend p => .run (instrOfPayload p) s
  | .reqRecv => .run (decodeRequest .recv) s
  | .reqRdcr n => .run (decodeRequest (.rdcr n)) s
  | .txAcc => fetchFrame s
  | .rxByte b => fetchByte b s
  | .xfail k => .pass (raise .transportError k.code s)

/-! ### Placing a row's bits where the next step fetches them (entry 2) -/

/-- A command payload: a SEND request in IDLE. -/
def placePayload (bs : List Byte) (s : State) : State :=
  { s with phase := .idle, sched := .reqSend bs :: s.sched }

/-- A command frame: TXBUF in TX with its first byte next. -/
def placeFrame (bs : List Byte) (s : State) : State :=
  { s with
    phase := .tx
    txbuf := Memory.writeAll [] 0 bs
    txlen := BitVec.ofNat 17 bs.length
    txcnt := 0
    txsum := 0
    sched := .txAcc :: s.sched }

/-- A reply header: four bytes in RXHDR and the fifth to come. -/
def placeHeader (t v0 v1 l0 l1 : Byte) (s : State) : State :=
  { s with
    phase := .rxhdr
    rxhdr := ⟨t, v0, v1, l0, 0⟩
    rxcnt := 4
    sched := .rxByte l1 :: s.sched }

/-- A reply region: all of it in RXBUF and the checksum byte to come, one that the validator accepts. -/
def placeRegion (bs : List Byte) (s : State) : State :=
  { s with
    phase := .rxbody
    rxlen := BitVec.ofNat 16 bs.length
    rxcnt := BitVec.ofNat 17 (5 + bs.length)
    rxbuf := Memory.writeAll [] 0 bs
    sched := .rxByte (0 - s.rxsum) :: s.sched }

/-- Bytes at the place their format is fetched from. -/
def placeBytes (f : Format) (bs : List Byte) (s : State) : State :=
  match f, bs with
  | .cf, bs => placeFrame bs s
  | .rf, [t, v0, v1, l0, l1] => placeHeader t v0 v1 l0 l1 s
  | .rf, _ => s
  | .cfCode, bs => placePayload bs s
  | .rfCode, bs => placeRegion bs s
  | .rfFeedback, bs => placeRegion bs s

/-- A row's bits, with zeros after them up to the size of the shortest frame or of the header for the two frame rows,
placed for the next step at the place of the row the decoder reads them as. A HOST row has no bits to place. -/
def placeWord (nbits w : Nat) (s : State) : State :=
  match (decodeTableWord nbits w).map encode with
  | some (.bytes .cf _) => placeBytes .cf (bytesOfNat 3 w ++ [0, 0, 0, 0, 0]) s
  | some (.bytes .rf _) => placeBytes .rf (bytesOfNat 3 w ++ [0, 0]) s
  | some (.bytes f _) => placeBytes f (bytesOfNat (nbits / 8) w) s
  | some (.request _) => s
  | none => s

end Sys2Proof.Machine
end

