-- ==== Sys2Proof/Machine/Step.lean ====
section
/-! DEFINITION. The step: one event, one atomic step (R165), and the fixed name that places a row's bits. -/

namespace Sys2Proof.Machine

/-- One step: the next enabled event happens, and what it fetches runs. With no enabled event there is no step (R166,
R174). -/
def step (s : State) : Host.Outcome State Fault Refusal :=
  match nextEvent s with
  | none => .refused .noEnabledEvent
  | some (e, s1) =>
    match fetch e s1 with
    | .run i s2 => exec i s2
    | .pass s2 => .next s2
    | .stop f => .fault f

/-- `s` with a row's bits stored where `step` fetches its next instruction, so that the next step runs exactly it
(entry 2). -/
def State.withFetchWord (s : State) (nbits w : Nat) : State := placeWord nbits w s

end Sys2Proof.Machine
end

