-- ==== Sys2Proof/Machine/PayloadDecoders.lean ====
section
/-! DEFINITION. The payload decoders and the errors of the host software (45_host_software.md sections 2 and 3, R222 to
R225, R228 to R230, R232). All of it is outside the block (R3): no step uses it. -/

namespace Sys2Proof.Machine

/-- What a caller of the host software sees instead of a value (R232): never an exit code, never a silent null. -/
inductive HostError where
  /-- the host's own `ArgumentError`: an argument out of range, before any request (R226) -/
  | argument
  /-- the error an `ERR(errcode, info)` response of the block stands for, with its information (R232, R240) -/
  | block (e : Error) (info : Half)
  /-- the operation's session ended by a RESET before it returned: the model's own (R21, R272; entry 15) -/
  | abandoned
  /-- a payload that its decoder cannot read: the source says "fails" and gives no name (R222, R224; entry 15) -/
  | undecodable
  /-- a value with no display string: the source's lookup failure, at formatting time (R223) -/
  | lookupFailure
  /-- a response that no rule gives to the request it answers; the block sends none (R41, R240; entry 15) -/
  | unexpected (r : Response)
  deriving DecidableEq, Repr

/-- The value, or the host error that stands for its absence. -/
def orError {α : Type} (e : HostError) : Option α → Except HostError α
  | some a => .ok a
  | none => .error e

/-- The error of R240 that has a code. -/
def errorOfCode (c : BitVec 4) : Option Error :=
  [Error.badHeader, .badDeviceId, .commandError, .transportError, .argumentError, .checksumMismatch, .shortFrame,
    .noReply].find? fun e => e.code == c

/-- The host error that a response which is no success stands for: an ERR response is passed on as the error of R240
with that code, its information with it (R232). -/
def hostErrorOf (r : Response) : HostError :=
  match r with
  | .err c info =>
    match errorOfCode c with
    | some e => .block e info
    | none => .unexpected r
  | _ => .unexpected r

/-- The display string of the reason in a CommandError, a function of ERRINFO alone (R212, R216, R243). No other error
carries a reason. -/
def HostError.reasonText : HostError → Option String
  | .block .commandError info => (reasonOf (lo8 info)).map Reason.text
  | _ => none

/-! ### SignalInfo -/

/-- SignalInfo: ten raw bytes in the source's field order (R222). -/
structure SignalInfo where
  colorSpace : Byte
  colorDepth : Byte
  hdcpLevel : Byte
  sourceType : Byte
  audioSampleRate : Byte
  audioBitDepth : Byte
  audioChannelCount : Byte
  audioStreamType : Byte
  mode3d : Byte
  pixelRepetition : Byte
  deriving DecidableEq, Repr

/-- `SignalInfo::parse`: fails on fewer than ten bytes; no validation of a field's value (R222). -/
def parseSignalInfo : List Byte → Except HostError SignalInfo
  | a :: b :: c :: d :: e :: f :: g :: h :: i :: j :: _ => .ok ⟨a, b, c, d, e, f, g, h, i, j⟩
  | _ => .error .undecodable

/-- The ten fields of SignalInfo (R222). -/
inductive SignalField where
  | colorSpace
  | colorDepth
  | hdcpLevel
  | sourceType
  | audioSampleRate
  | audioBitDepth
  | audioChannelCount
  | audioStreamType
  | mode3d
  | pixelRepetition
  deriving DecidableEq, Repr

/-- A field's input offset (R222). -/
def SignalField.offset : SignalField → Nat
  | .colorSpace => 0
  | .colorDepth => 1
  | .hdcpLevel => 2
  | .sourceType => 3
  | .audioSampleRate => 4
  | .audioBitDepth => 5
  | .audioChannelCount => 6
  | .audioStreamType => 7
  | .mode3d => 8
  | .pixelRepetition => 9

/-- A field's raw value (R222). -/
def SignalInfo.get (i : SignalInfo) : SignalField → Byte
  | .colorSpace => i.colorSpace
  | .colorDepth => i.colorDepth
  | .hdcpLevel => i.hdcpLevel
  | .sourceType => i.sourceType
  | .audioSampleRate => i.audioSampleRate
  | .audioBitDepth => i.audioBitDepth
  | .audioChannelCount => i.audioChannelCount
  | .audioStreamType => i.audioStreamType
  | .mode3d => i.mode3d
  | .pixelRepetition => i.pixelRepetition

/-- A field's display string at index 0: every field has one (R223). The three the source elides are free values
(entry 15). -/
def SignalField.indexZero : SignalField → String
  | .colorSpace => "RGB444"
  | .colorDepth => "24bit"
  | .hdcpLevel => "Clear"
  | .sourceType => "HDMI"
  | .audioSampleRate => "Invalid"
  | .mode3d => "2D"
  | .pixelRepetition => "1x"
  | f => Config.indexZeroText f.offset

/-- A field's display string, looked up when it is formatted (R223). At every index but 0 the table is a free value
(entry 15). -/
def displaySignal (i : SignalInfo) (f : SignalField) : Except HostError String :=
  if i.get f = 0 then .ok f.indexZero else orError .lookupFailure (Config.displayString f.offset (i.get f))

/-- The ten fields in the order of their offsets (R222). -/
def SignalField.all : List SignalField :=
  [.colorSpace, .colorDepth, .hdcpLevel, .sourceType, .audioSampleRate, .audioBitDepth, .audioChannelCount,
    .audioStreamType, .mode3d, .pixelRepetition]

/-- The human-readable rendering of a SignalInfo (R231), whose text is a free value (entry 15); a field without a
display string is the lookup failure of formatting (R223). -/
def renderSignal (i : SignalInfo) : Except HostError String :=
  (SignalField.all.mapM (displaySignal i)).map (Config.signalSummary (SignalField.all.map i.get))

/-! ### Timings -/

/-- Timings (R224): the stored clock in kHz (R225, C5), the three flags, and the eight 16-bit fields in the order of
their offsets, which the source does not name one by one (N10). -/
structure Timings where
  clock : Nat
  interlace : Bool
  hsyncPositive : Bool
  vsyncPositive : Bool
  geometry : List Half
  deriving DecidableEq, Repr

/-- `n` little-endian 16-bit fields from the front of a byte string. -/
def halves : Nat → List Byte → List Half
  | n + 1, b0 :: b1 :: bs => le16 b0 b1 :: halves n bs
  | _, _ => []

/-- `Timings::parse`: fails on fewer than twenty bytes; byte 0 and flag bits 3 to 7 are ignored (R224, R225, C6). -/
def parseTimings (bs : List Byte) : Except HostError Timings :=
  if bs.length < 20 then .error .undecodable
  else
    match bs with
    | _ :: c0 :: c1 :: fl :: rest =>
      .ok
        { clock := 10 * (le16 c0 c1).toNat
          interlace := fl.getLsbD 0
          hsyncPositive := fl.getLsbD 1
          vsyncPositive := fl.getLsbD 2
          geometry := halves 8 rest }
    | _ => .error .undecodable

/-- The human-readable rendering of Timings (R231), whose text is a free value (entry 15). -/
def renderTimings (t : Timings) : String :=
  Config.timingsSummary t.clock [t.interlace, t.hsyncPositive, t.vsyncPositive] t.geometry

/-! ### Battery voltage and picture -/

/-- The battery voltage of a returned payload (R230): truncating division by 100, or, with `fixedPoint` (the parameter
BATT_FIXED_POINT, default false), the raw value in centivolts. The two bytes stand first, as in the spec's examples;
R201 says that their place is not stated. DESIGN CHOICE (entry 15): a payload shorter than two bytes, of which the spec
says nothing, is one the decoder cannot read. -/
def batteryVoltage (fixedPoint : Bool) (q : List Byte) : Except HostError Nat :=
  match q with
  | b0 :: b1 :: _ => .ok (if fixedPoint then (le16 b0 b1).toNat else (le16 b0 b1).toNat / 100)
  | _ => .error .undecodable

/-- The number of reply reads of a picture capture (R229, R282). -/
def pictureFragments : Nat := 64

/-- Bytes of the sub-header of each picture fragment (R229). -/
def fragmentHeader : Nat := 3

/-- What one fragment contributes to the image, `q[3 .. |q|)`: its payload without the sub-header, and nothing where it
has at most three bytes (R229, R5). -/
def fragmentImage (q : List Byte) : List Byte := q.drop fragmentHeader

/-- The image of the fragments received, in their order (R229). -/
def imageOf (qs : List (List Byte)) : List Byte := (qs.map fragmentImage).flatten

end Sys2Proof.Machine
end

