-- ==== Sys2Proof/Machine/HostSoftware.lean ====
section
/-! DEFINITION. The host software around the block: the pseudo-operations and the program notation of R89 and R90, and
the operations of the Device Session (45_host_software.md section 1, R221, R226 to R229) as the requests the host
presents and what it gives its caller. All of it is outside the block (R3): no step uses it. -/

namespace Sys2Proof.Machine

/-! ### The program notation -/

/-- `CMD <mnemonic> <bytes>`: exactly one SEND (R90). -/
def cmdRequests (code : Half) (args : List Byte) : List Event := [.reqSend (commandPayload code args)]

/-- `XCHG <bytes>`: one SEND, and one RECV if a reply is expected (R90, R221). -/
def xchgRequests (d : Byte) (p : List Byte) : List Event :=
  if d = Config.direct then [.reqSend p, .reqRecv] else [.reqSend p]

/-- A line of the spec's program notation, as abstract syntax (R89). -/
inductive ProgramLine where
  | reset (g d : Byte) (rxck : Bool)
  | send (p : List Byte)
  | recv
  | rdcr (n : Nat)
  /-- the bytes the block pushes, in order -/
  | tx (bs : List Byte)
  /-- the bytes the transport supplies, in order -/
  | rx (bs : List Byte)
  | xfail (kind : FailKind)
  /-- the response the rules give -/
  | gives (r : Response)
  deriving DecidableEq, Repr

/-- The events a program presents, line by line: a `tx` line accepts its bytes, a `rx` line delivers its bytes, and a
response line presents nothing (R89, R165). -/
def programEvents : List ProgramLine → List Event
  | [] => []
  | .reset g d k :: ls => .reset g d k :: programEvents ls
  | .send p :: ls => .reqSend p :: programEvents ls
  | .recv :: ls => .reqRecv :: programEvents ls
  | .rdcr n :: ls => .reqRdcr n :: programEvents ls
  | .tx bs :: ls => bs.map (fun _ => .txAcc) ++ programEvents ls
  | .rx bs :: ls => bs.map .rxByte ++ programEvents ls
  | .xfail k :: ls => .xfail k :: programEvents ls
  | .gives _ :: ls => programEvents ls

/-- The bytes a program says the block pushes, and the responses it says the rules give (R89). -/
def programResults : List ProgramLine → List Byte × List Response
  | [] => ([], [])
  | .tx bs :: ls => (bs ++ (programResults ls).1, (programResults ls).2)
  | .gives r :: ls => ((programResults ls).1, r :: (programResults ls).2)
  | _ :: ls => programResults ls

/-! ### The operations of the Device Session -/

/-- How one returned payload is read (R228, R230). -/
inductive Reading where
  /-- raw bytes -/
  | raw
  /-- a single integer -/
  | integer
  /-- a boolean -/
  | boolean
  /-- a fixed tuple of bytes -/
  | tuple
  | signalInfo
  | timings
  | voltage (fixedPoint : Bool)
  deriving DecidableEq, Repr

/-- What replies an operation reads (R221, R229). -/
inductive ReplyKind where
  /-- one reply, read so -/
  | one (r : Reading)
  /-- the picture capture: the payloads of its 64 replies -/
  | picture
  deriving DecidableEq, Repr

/-- What an operation gives its caller when it succeeds (R228). -/
inductive HostValue where
  /-- a control register's value, answered to an RDCR (R176) -/
  | register (v : BitVec 32)
  /-- no reply was expected and none was read (entry 15) -/
  | done
  | raw (q : List Byte)
  | integer (n : Nat)
  | boolean (b : Bool)
  | tuple (q : List Byte)
  | signalInfo (i : SignalInfo)
  | timings (t : Timings)
  | voltage (v : Nat)
  | image (im : List Byte)
  deriving DecidableEq, Repr

/-- The reading of one returned payload (R221 step 4, R228, R230). How an integer, a boolean or a tuple stands in the
payload is not in the source: free values (entry 15). DESIGN CHOICE (entry 15): the result depends on the reading and
the payload alone, so one free layout of a reading serves every command, although the source gives the layout of none
(N7). -/
def interpretPayload (r : Reading) (q : List Byte) : Except HostError HostValue :=
  match r with
  | .raw => .ok (.raw q)
  | .integer => (orError .undecodable (Config.payloadInteger q)).map .integer
  | .boolean => (orError .undecodable (Config.payloadBoolean q)).map .boolean
  | .tuple => (orError .undecodable (Config.payloadTuple q)).map .tuple
  | .signalInfo => (parseSignalInfo q).map .signalInfo
  | .timings => (parseTimings q).map .timings
  | .voltage fixedPoint => (batteryVoltage fixedPoint q).map .voltage

/-- The reading of the payloads an operation has received (R221 step 4, R229). DESIGN CHOICE (entry 15): an operation
that reads one reply succeeds with `done` where the address pair gives it none to read. R90 says only that no RECV
follows, and which commands expect a reply is not in the source. -/
def interpret (k : ReplyKind) (qs : List (List Byte)) : Except HostError HostValue :=
  match k, qs with
  | .picture, qs => .ok (.image (imageOf qs))
  | .one _, [] => .ok .done
  | .one r, q :: _ => interpretPayload r q

/-- One operation of the Device Session (R220, R221): whether the host's check lets its arguments pass, the payload they
are serialized into, and how its replies are read. -/
structure Operation where
  argumentsValid : Bool
  payload : List Byte
  kind : ReplyKind
  deriving DecidableEq, Repr

/-- The reply reads of an operation (R90, R221, R229): 64 for the picture capture; else one if a reply is expected
from the session's address pair, and none if not. -/
def Operation.reads (op : Operation) (g d : Byte) : Nat :=
  match op.kind with
  | .picture => pictureFragments
  | .one _ => if replyExpected g d then 1 else 0

/-- What the host does next: it presents a request, or it returns to its caller. -/
inductive HostMove where
  | request (e : Event)
  | result (r : Except HostError HostValue)

/-- Step 4 of an operation with `n` reply reads left and the payloads `qs` received, given the responses to the reads
made from here on: one RECV after another, fail-fast at the first response that is not DATA, then the reading (R221,
R229). -/
def readMove (k : ReplyKind) : Nat → List (List Byte) → List Response → HostMove
  | 0, qs, _ => .result (interpret k qs)
  | _ + 1, _, [] => .request .reqRecv
  | n + 1, qs, .data _ q :: rs => readMove k n (qs ++ [q]) rs
  | _ + 1, _, r :: _ => .result (.error (hostErrorOf r))

/-- What the host does next in an operation, given the block's responses to the requests it has made: the argument check
before any request, one SEND, the reply reads, the reading (R221, R226). Any response but SENT to the SEND ends the
operation with its error (R232). -/
def nextMove (g d : Byte) (op : Operation) (rs : List Response) : HostMove :=
  if op.argumentsValid then
    match rs with
    | [] => .request (.reqSend op.payload)
    | .sent :: rs => readMove op.kind (op.reads g d) [] rs
    | r :: _ => .result (.error (hostErrorOf r))
  else .result (.error .argument)

/-- The host's check of a volume level, 0 to 8 (R185, R226). -/
def volumeLevelValid (v : Int) : Bool := decide (0 ≤ v) && decide (v ≤ 8)

/-- The host's check of a standby status, 0 to 1 (R186, R226). -/
def standbyValid (v : Int) : Bool := decide (0 ≤ v) && decide (v ≤ 1)

/-- The number of argument bytes of a command, fixed for its code (R227): three for SET_BAUD_RATE, else a free value
(entry 15), at most what fits a SEND beside the code (R106). DESIGN CHOICE (entry 15): no other argument bytes accompany
the baud rate's three, which R191 says is not in the source. -/
def argumentWidth (code : Half) : Nat :=
  if code = 0x7879 then 3 else min (Config.argumentWidth code) (Config.txMax - 2)

/-- The argument bytes of a level or status: as many as the command's width, each a free value (R227; entry 15). -/
def levelBytes (code : Half) (v : Int) : List Byte :=
  (List.range (argumentWidth code)).map (Config.argumentByte code v)

/-- An operation whose arguments the source does not check and whose argument bytes and reply kind are given (R220,
R226, R228). -/
def commandOperation (code : Half) (args : List Byte) (kind : ReplyKind) : Operation :=
  ⟨true, commandPayload code args, kind⟩

/-- `SetVolume` (R185, R226): the level is checked before any SEND. -/
def setVolume (v : Int) : Operation := ⟨volumeLevelValid v, commandPayload 0x0080 (levelBytes 0x0080 v), .one .raw⟩

/-- `SetStandby` (R186, R226): the status is checked before any SEND. -/
def setStandby (v : Int) : Operation := ⟨standbyValid v, commandPayload 0x0081 (levelBytes 0x0081 v), .one .raw⟩

/-- SET_BAUD_RATE with the low three bytes of the rate (R191, R227). DESIGN CHOICE (entry 15): no other argument bytes
accompany them, which R191 says is not in the source. -/
def setBaudRate (v : BitVec 32) : Operation := commandOperation 0x7879 (baudArgs v) (.one .raw)

/-- GET_SIGNAL_INFO read as SignalInfo (R195: the spec derives the pairing from the names only). -/
def getSignalInfo (args : List Byte) : Operation := commandOperation 0x8090 args (.one .signalInfo)

/-- GET_TIMING read as Timings (R196: the spec derives the pairing from the names only). -/
def getTiming (args : List Byte) : Operation := commandOperation 0x8091 args (.one .timings)

/-- GET_BATTERY_VOLTAGE (R201, R230). -/
def getBatteryVoltage (fixedPoint : Bool) (args : List Byte) : Operation :=
  commandOperation 0x8098 args (.one (.voltage fixedPoint))

/-- The picture capture (R229; R198: the spec derives the command from the names only): one command, then 64 reply
reads. -/
def capturePicture (args : List Byte) : Operation := commandOperation 0x8095 args .picture

end Sys2Proof.Machine
end

