-- ==== Sys2Proof/Machine/DeviceSession.lean ====
section
/-! DEFINITION. The Device Session (45_host_software.md R220): its operations, one per device command, the address it
binds, and the host, the transport and the block together. The transport handle is the block's one transport, whose
pending deliveries are the events of `sched` that are none of the host's. All of it is outside the block (R3): no step
uses it. -/

namespace Sys2Proof.Machine

/-- A command's serialized arguments: as many bytes as its fixed width (R227). -/
abbrev Arguments (code : Half) := Vector Byte (argumentWidth code)

/-- The device commands, one operation each (R82, R220). Where the source does not say how a command's reply is read
(R228), the caller does (entry 15). -/
inductive DeviceCommand where
  | setVolume (level : Int)
  | setStandby (status : Int)
  | setMonitorSettings (args : Arguments 0x0096) (reply : Reading)
  | setAddr (args : Arguments 0x7801) (reply : Reading)
  | setRxEdid (args : Arguments 0x7850) (reply : Reading)
  | downloadUserEdid (args : Arguments 0x7851) (reply : Reading)
  | setBaudRate (rate : BitVec 32)
  | getVolume (args : Arguments 0x8080) (reply : Reading)
  | getStandby (args : Arguments 0x8081) (reply : Reading)
  | getSource (args : Arguments 0x8082) (reply : Reading)
  | getSignalInfo (args : Arguments 0x8090)
  | getTiming (args : Arguments 0x8091)
  | getSignalPackageInfo (args : Arguments 0x8092) (reply : Reading)
  | getPicture (args : Arguments 0x8095)
  | getMonitoringData (args : Arguments 0x8096) (reply : Reading)
  | getPixelRgbData (args : Arguments 0x8097) (reply : Reading)
  | getBatteryVoltage (fixedPoint : Bool) (args : Arguments 0x8098)
  | getExt5vInput (args : Arguments 0x8099) (reply : Reading)
  | getSignalStatus (args : Arguments 0x809F) (reply : Reading)
  | getDeviceAddr (args : Arguments 0xF801) (reply : Reading)
  | getDeviceVersion (args : Arguments 0xF802) (reply : Reading)
  | getRxEdidIndex (args : Arguments 0xF850) (reply : Reading)
  | getRxEdidData (args : Arguments 0xF851) (reply : Reading)
  | getFwInfo (args : Arguments 0xF858) (reply : Reading)
  deriving DecidableEq, Repr

/-- The operation of a device command (R185 to R208, R220). -/
def DeviceCommand.operation : DeviceCommand → Operation
  | .setVolume level => Sys2Proof.Machine.setVolume level
  | .setStandby status => Sys2Proof.Machine.setStandby status
  | .setMonitorSettings args reply => commandOperation 0x0096 args.toList (.one reply)
  | .setAddr args reply => commandOperation 0x7801 args.toList (.one reply)
  | .setRxEdid args reply => commandOperation 0x7850 args.toList (.one reply)
  | .downloadUserEdid args reply => commandOperation 0x7851 args.toList (.one reply)
  | .setBaudRate rate => Sys2Proof.Machine.setBaudRate rate
  | .getVolume args reply => commandOperation 0x8080 args.toList (.one reply)
  | .getStandby args reply => commandOperation 0x8081 args.toList (.one reply)
  | .getSource args reply => commandOperation 0x8082 args.toList (.one reply)
  | .getSignalInfo args => Sys2Proof.Machine.getSignalInfo args.toList
  | .getTiming args => Sys2Proof.Machine.getTiming args.toList
  | .getSignalPackageInfo args reply => commandOperation 0x8092 args.toList (.one reply)
  | .getPicture args => capturePicture args.toList
  | .getMonitoringData args reply => commandOperation 0x8096 args.toList (.one reply)
  | .getPixelRgbData args reply => commandOperation 0x8097 args.toList (.one reply)
  | .getBatteryVoltage fixedPoint args => Sys2Proof.Machine.getBatteryVoltage fixedPoint args.toList
  | .getExt5vInput args reply => commandOperation 0x8099 args.toList (.one reply)
  | .getSignalStatus args reply => commandOperation 0x809F args.toList (.one reply)
  | .getDeviceAddr args reply => commandOperation 0xF801 args.toList (.one reply)
  | .getDeviceVersion args reply => commandOperation 0xF802 args.toList (.one reply)
  | .getRxEdidIndex args reply => commandOperation 0xF850 args.toList (.one reply)
  | .getRxEdidData args reply => commandOperation 0xF851 args.toList (.one reply)
  | .getFwInfo args reply => commandOperation 0xF858 args.toList (.one reply)

/-- What a caller may ask of the session: a device command, or a control register's value (R176). -/
inductive Task where
  | command (c : DeviceCommand)
  | register (n : Nat)
  deriving DecidableEq, Repr

/-- What the host does next for a task, given the responses to the requests it has made (R176, R221). -/
def Task.move (g d : Byte) (t : Task) (rs : List Response) : HostMove :=
  match t, rs with
  | .command c, rs => nextMove g d c.operation rs
  | .register n, [] => .request (.reqRdcr n)
  | .register _, .val v :: _ => .result (.ok (.register v))
  | .register _, r :: _ => .result (.error (hostErrorOf r))

/-- A Device Session (R220): the bound address, which nothing changes (R157), the strap RXCK, and the one task in
progress (R60) with the responses to its requests. -/
structure Session where
  gaddr : Byte
  daddr : Byte
  rxck : Bool
  task : Option Task
  /-- the responses to the task's requests so far -/
  got : List Response
  /-- whether a request of the task has no response yet -/
  waiting : Bool
  /-- how many responses of the block the session, or one before it, has taken -/
  seen : Nat
  deriving DecidableEq, Repr

/-- The session's constructor "does nothing but store the transport and the address" (R276); `n` responses have been
sent before it. -/
def Session.bind (g d : Byte) (k : Bool) (n : Nat) : Session := ⟨g, d, k, none, [], false, n⟩

/-- The host with its session, where it has one, the block with what its environment wants to deliver, and what the
callers have been given, in order. -/
structure Hosted where
  session : Option Session
  block : State
  returned : List (Except HostError HostValue)

/-- Whether an event is the host's, a RESET or a request, and not the transport's (R165, R283). -/
def Event.isHost : Event → Bool
  | .reset _ _ _ => true
  | .reqSend _ => true
  | .reqRecv => true
  | .reqRdcr _ => true
  | .txAcc => false
  | .rxByte _ => false
  | .xfail _ => false

/-- The host's events that wait to be taken. -/
def Hosted.hostEvents (h : Hosted) : List Event := h.block.sched.filter Event.isHost

/-- The caller's result of a task that a new session ends (entry 15). -/
def Hosted.abandonedResult (h : Hosted) : List (Except HostError HostValue) :=
  match h.session with
  | some { task := some _, .. } => [.error .abandoned]
  | _ => []

/-- A new session is bound and presents RESET with its straps; a session is the time between two resets (R21, R220,
R272, R276). DESIGN CHOICE (entry 15): the task of the session before it, in whatever phase the block is, between two
requests or within one, is not carried on and not repeated (R262); its caller is given the error `abandoned`, and a
request of it that still waits is withdrawn. -/
def Hosted.openSession (g d : Byte) (k : Bool) (h : Hosted) : Hosted where
  session := some (Session.bind g d k h.block.responses.length)
  block := { h.block with sched := .reset g d k :: h.block.sched.filter fun e => !e.isHost }
  returned := h.returned ++ h.abandonedResult

/-- The session goes on with its task: it takes the response it waits for, once the block has sent it; or it presents
the task's next request; or it gives the caller the result (R60, R220, R221, R232). -/
def Hosted.advance (σ : Session) (h : Hosted) : Hosted :=
  match σ.task, σ.waiting with
  | none, _ => h
  | some _, true =>
    match h.block.responses[σ.seen]? with
    | none => h
    | some r => { h with session := some { σ with got := σ.got ++ [r], waiting := false, seen := σ.seen + 1 } }
  | some t, false =>
    match t.move σ.gaddr σ.daddr σ.got with
    | .request e =>
      { h with
        session := some { σ with waiting := true }
        block := { h.block with sched := h.block.sched ++ [e] } }
    | .result r =>
      { h with session := some { σ with task := none, got := [] }, returned := h.returned ++ [r] }

/-- The host resets or reopens the transport: nothing of it remains to be delivered (R259, R276). That cancels an
operation in progress that no waiting RESET ends: it fails with XFAIL(CLOSED) (R246, U14; entry 15). -/
def Hosted.reopenTransport (h : Hosted) : Hosted :=
  { h with
    block :=
      { h.block with
        sched := h.hostEvents ++ (if busy h.block && h.hostEvents.isEmpty then [.xfail .closed] else []) } }

/-- What can happen to the host, the transport and the block together (R283). -/
inductive HostedAction where
  /-- a session is opened with these straps -/
  | openSession (g d : Byte) (rxck : Bool)
  /-- a caller invokes the session -/
  | call (t : Task)
  /-- the session goes on -/
  | advance
  /-- the transport wants to deliver an event of its own -/
  | transport (e : Event)
  /-- the host resets or reopens the transport -/
  | reopenTransport
  /-- the block takes a step -/
  | blockStep
  deriving DecidableEq, Repr

/-- What an action makes of it, or nothing where it cannot happen. Only a session presents the host's events: it is the
only issuer of requests (R220). A session takes one task at a time (R60). -/
def Hosted.act (h : Hosted) (a : HostedAction) : Option Hosted :=
  match a, h.session with
  | .openSession g d k, _ => some (h.openSession g d k)
  | .call t, some σ => if σ.task = none then some { h with session := some { σ with task := some t } } else none
  | .call _, none => none
  | .advance, some σ => some (h.advance σ)
  | .advance, none => none
  | .transport e, _ =>
    if e.isHost then none else some { h with block := { h.block with sched := h.block.sched ++ [e] } }
  | .reopenTransport, _ => some h.reopenTransport
  | .blockStep, _ =>
    match step h.block with
    | .next t => some { h with block := t }
    | _ => none

end Sys2Proof.Machine
end

