-- ==== Sys2Proof/Safety.lean ====
section
/-! DEFINITION. What claims are stated in: the invariant of every run, the memory's canonical form, and the vocabulary
for what an event or an instruction does. -/

namespace Sys2Proof.Machine

/-- Both buffers are in canonical form. -/
def canonical (s : State) : Prop :=
  Memory.wf Config.txbufSize s.txbuf = true ∧ Memory.wf Config.rxbufSize s.rxbuf = true

/-- PHASE is TX as R24, R25, R26 say: TXBUF holds the frame of some payload for the bound address pair, TXLEN is its
length, TXCNT is below it, and TXSUM sums the bytes already pushed. -/
def transmitting (s : State) : Prop :=
  ∃ p : List Byte, p.length ≤ Config.txMax ∧ s.txlen.toNat = p.length + 8 ∧ s.txcnt.toNat < s.txlen.toNat ∧
    txFrame s = some (encodeFrame s.gaddr s.daddr p) ∧
    s.txsum = sum8 ((encodeFrame s.gaddr s.daddr p).take s.txcnt.toNat)

/-- PHASE is RXHDR as R24, R29 say: fewer than five bytes are in, and RXSUM sums them. -/
def receivingHeader (s : State) : Prop :=
  s.rxcnt.toNat < 5 ∧ s.rxsum = sum8 (s.rxhdr.bytes.take s.rxcnt.toNat)

/-- PHASE is RXBODY as R24, R28, R29 say: the header was accepted, RXCNT is between 5 and 5 + RXLEN, the region bytes
that are in are written, and RXSUM sums header and region. -/
def receivingBody (s : State) : Prop :=
  s.rxhdr.bytes = headerBytes s.rxlen ∧ 5 ≤ s.rxcnt.toNat ∧ s.rxcnt.toNat ≤ 5 + s.rxlen.toNat ∧
    ∃ r : List Byte, Memory.readAll s.rxbuf 0 (s.rxcnt.toNat - 5) = some r ∧ s.rxsum = sum8 (s.rxhdr.bytes ++ r)

/-- The invariant of every run: canonical buffers; ERRCODE at most 8 (R240) and ERRINFO 0 where there is no error
(R35, R36); RLEN equal to RXLEN (R39); TXSUM 0 where a frame is fully pushed (R26, R104); no RECV and RXCNT 0 where
no reply is expected (R154, R133); and each busy phase as R24 says. -/
def Inv (s : State) : Prop :=
  canonical s ∧ s.errcode.toNat ≤ 8 ∧ (s.errcode = 0 → s.errinfo = 0) ∧ s.rlen = s.rxlen ∧
    (s.txcnt = s.txlen → s.txsum = 0) ∧
    (s.daddr ≠ Config.direct → s.rxcnt = 0 ∧ s.phase ≠ .rxhdr ∧ s.phase ≠ .rxbody) ∧
    (s.phase = .tx → transmitting s) ∧ (s.phase = .rxhdr → receivingHeader s) ∧
    (s.phase = .rxbody → receivingBody s)

/-- The response of a RECV that ends with this outcome of DecodeReply (R120, R134, R240). -/
def responseOf : ReplyOutcome → Response
  | .badHeader t => .err Error.badHeader.code (t.setWidth 16)
  | .badDeviceId v => .err Error.badDeviceId.code v
  | .checksumMismatch r => .err Error.checksumMismatch.code (r.setWidth 16)
  | .shortFrame len => .err Error.shortFrame.code len
  | .commandError st => .err Error.commandError.code (st.setWidth 16)
  | .ok code payload => .data code payload

/-- Whether an event is a RESET. -/
def Event.isReset : Event → Bool
  | .reset _ _ _ => true
  | _ => false

/-- The command rows of R82 with their codes, each a function of its argument bytes. -/
def commandRows : List ((List Byte → Instr) × Half) :=
  [(.setVolume, 0x0080), (.setStandby, 0x0081), (.setMonitorSettings, 0x0096), (.setAddr, 0x7801),
    (.setRxEdid, 0x7850), (.downloadUserEdid, 0x7851), (.setBaudRate, 0x7879), (.getVolume, 0x8080),
    (.getStandby, 0x8081), (.getSource, 0x8082), (.getSignalInfo, 0x8090), (.getTiming, 0x8091),
    (.getSignalPackageInfo, 0x8092), (.getPicture, 0x8095), (.getMonitoringData, 0x8096),
    (.getPixelRgbData, 0x8097), (.getBatteryVoltage, 0x8098), (.getExt5vInput, 0x8099), (.getSignalStatus, 0x809F),
    (.getDeviceAddr, 0xF801), (.getDeviceVersion, 0xF802), (.getRxEdidIndex, 0xF850), (.getRxEdidData, 0xF851),
    (.getFwInfo, 0xF858)]

/-- The rows of R83 that reject a command, with their statuses, each a function of the bytes after the status. -/
def rejectionRows : List ((List Byte → Instr) × Byte) :=
  [(.fbChecksumError, 0x01), (.fbWrongCommand, 0x02), (.fbExecError, 0x03), (.fbInvalidMode, 0x04),
    (.fbAddressError, 0x05)]

end Sys2Proof.Machine
end

