-- ==== Sys2Proof/WellFormed.lean ====
section
/-! DEFINITION. Well-formed instructions: operands that the row's format admits (R71, R75, R76, R83, R88). -/

namespace Sys2Proof

/-- A command payload fits the length field (R75): two code bytes and the arguments. -/
def argsFit (args : List Byte) : Bool := args.length + 2 ≤ Config.txMax

/-- A reply region fits the length field (R76): `n` bytes before `rest`. -/
def regionFits (n : Nat) (rest : List Byte) : Bool := n + rest.length ≤ Config.rxMax

/-- The instruction's operands are ones its format admits. -/
def Instr.wellFormed : Instr → Bool
  | .cf len g d p cs =>
    p.length ≤ Config.txMax && len.toNat == p.length + Config.lenBias && cs == checksum (frameBody g d p)
  | .rf _ => true
  | .setVolume a | .setStandby a | .setMonitorSettings a | .setAddr a | .setRxEdid a | .downloadUserEdid a
  | .setBaudRate a | .getVolume a | .getStandby a | .getSource a | .getSignalInfo a | .getTiming a
  | .getSignalPackageInfo a | .getPicture a | .getMonitoringData a | .getPixelRgbData a | .getBatteryVoltage a
  | .getExt5vInput a | .getSignalStatus a | .getDeviceAddr a | .getDeviceVersion a | .getRxEdidIndex a
  | .getRxEdidData a | .getFwInfo a => argsFit a
  | .feedback t => regionFits 2 t
  | .dataReply c p => c != Config.feedbackCode && regionFits 2 p
  | .fbOk r | .fbChecksumError r | .fbWrongCommand r | .fbExecError r | .fbInvalidMode r | .fbAddressError r =>
    regionFits 3 r
  | .fbUnknown st r => 6 ≤ st.toNat && regionFits 3 r
  | .send p => p.length ≤ Config.txMax
  | .recv => true
  | .rdcr _ => true
  | .reset _ _ _ => true

end Sys2Proof
end

