-- ==== Sys2Proof/Certificates/Slice0/Obligations.lean ====
section
/-! DEFINITION. The statements for the provers. Each docstring names the rule of spec/ it formalises, or says that it
is derived. `nextEvent s = some (e, s1)` says that event `e` happens next and `s1` is `s` with it taken: how the
environment's events are held is the model's choice (entry 1), and so are the records of the ports, `txStream`,
`rxPulled` and `responses` (entry 9). -/

open Sys2Proof Sys2Proof.Machine

/-! ### Encoding -/

/-- Derived from R88 and the formats of R71, R72, R80, R82, R83: decoding the encoding of a well-formed instruction
gives it back, every operand at every value the encoding admits. -/
def Obligations.DecodeOfEncodeGivesInstruction : Prop :=
  ∀ i : Instr, i.wellFormed = true → decode (encode i) = .ok i

/-- Derived from R88: bytes or a request that decode to an instruction are its encoding, so no two wires of one format
decode to the same instruction and no byte is dropped. -/
def Obligations.EncodeOfDecodedGivesWire : Prop :=
  ∀ (w : Wire) (i : Instr), decode w = .ok i → encode i = w

/-- Derived from R87 (which the spec marks as its own derivation from R71 and R79): ParseCommand fails exactly where
the rule's checks fail, and it inverts Encode. -/
def Obligations.ParseCommandInvertsEncode : Prop :=
  (∀ (g d : Byte) (p : List Byte), p.length ≤ 65532 → parseCommand (encodeFrame g d p) = some (g, d, p)) ∧
    ∀ (f : List Byte) (g d : Byte) (p : List Byte),
      parseCommand f = some (g, d, p) ↔
        ∃ v0 v1 l0 l1 : Byte,
          8 ≤ f.length ∧ f[0]? = some 0xAA ∧ f[1]? = some v0 ∧ f[2]? = some v1 ∧ le16 v0 v1 = 0x0001 ∧
            f[3]? = some l0 ∧ f[4]? = some l1 ∧ 3 ≤ (le16 l0 l1).toNat ∧ f.length = (le16 l0 l1).toNat + 5 ∧
            sum8 f = 0 ∧ f[5]? = some g ∧ f[6]? = some d ∧ p = (f.drop 7).take ((le16 l0 l1).toNat - 3)

/-- R71: the command frame byte by byte, its length, and what its length field counts. -/
def Obligations.EncodedFrameLayout : Prop :=
  ∀ (g d : Byte) (p : List Byte), p.length ≤ 65532 →
    ∃ l0 l1 : Byte,
      (encodeFrame g d p).length = p.length + 8 ∧
        (encodeFrame g d p).take 7 = [0xAA, 0x01, 0x00, l0, l1, g, d] ∧
        l0.toNat = (p.length + 3) % 256 ∧ l1.toNat = (p.length + 3) / 256 ∧
        (le16 l0 l1).toNat = p.length + 3 ∧
        (∀ i, i < p.length → (encodeFrame g d p)[7 + i]? = p[i]?) ∧
        (encodeFrame g d p)[7 + p.length]? = some (checksum ((encodeFrame g d p).take (7 + p.length)))

/-- R104: the zero-sum property of every frame, and TXSUM = 0 at the step that ends a SEND without error. The
invariant rules out only states that no run reaches. -/
def Obligations.EncodedFrameSumsToZero : Prop :=
  (∀ (g d : Byte) (p : List Byte), p.length ≤ 65532 → sum8 (encodeFrame g d p) = 0) ∧
    ∀ s s1 t : State, Inv s → nextEvent s = some (.txAcc, s1) → step s = .next t → t.phase = .idle → t.txsum = 0

/-- Derived from R102 (whose equivalent forms the spec marks as its own derivation): the checksum formula over the
naturals, the one case where the outer modulus matters, the equivalent forms, and independence of the order of
addition. -/
def Obligations.ChecksumEquivalentForms : Prop :=
  ∀ body : List Byte,
    (checksum body).toNat = (256 - (body.map BitVec.toNat).sum % 256) % 256 ∧
      (256 - (body.map BitVec.toNat).sum % 256 = 256 ↔ (body.map BitVec.toNat).sum % 256 = 0) ∧
      ((body.map BitVec.toNat).sum % 256 = 0 → checksum body = 0) ∧
      checksum body = 0 - sum8 body ∧ checksum body = (sum8 body ^^^ 0xFF) + 1 ∧
      ∀ body' : List Byte, body.Perm body' → checksum body' = checksum body

/-- Derived from R82, R83, R88: some rows' bits, as the opcode table numbers them, decode to the row's instruction. Two
points are the model's choice (entry 2): the bits of the two frame rows are padded with zeros, which gives the operands
of `cf` and `rf` here, and a 16-bit word is read as a command's code where it is one, and as a reply's code where it is
none, so 0x8080, which DATA_REPLY matches too, is GET_VOLUME. -/
def Obligations.TableWordsDecode : Prop :=
  decodeTableWord 24 0x0001AA = some (.cf 0 0 0 [] 0) ∧ decodeTableWord 24 0x0001AB = some (.rf 0) ∧
    decodeTableWord 16 0x8080 = some (.getVolume []) ∧ decodeTableWord 16 0x7879 = some (.setBaudRate []) ∧
    decodeTableWord 16 0xF858 = some (.getFwInfo []) ∧ decodeTableWord 16 0xFFFF = some (.feedback []) ∧
    decodeTableWord 16 0x1234 = some (.dataReply 0x1234 []) ∧ decodeTableWord 24 0x00FFFF = some (.fbOk []) ∧
    decodeTableWord 24 0x05FFFF = some (.fbAddressError []) ∧ decodeTableWord 24 0xFFFFFF = some (.fbUnknown 0xFF [])

/-- Derived, the model's own (assumption entry 2): a row's bits placed with withFetchWord are what the next step
fetches and runs, from every state. -/
def Obligations.PlacedWordRunsNext : Prop :=
  ∀ (s : State) (nbits w : Nat) (i : Instr), decodeTableWord nbits w = some i →
    ∃ s2 t : State, step (s.withFetchWord nbits w) = exec i s2 ∧ exec i s2 = .next t

/-! ### SEND and the command rows -/

/-- Derived from R105, R167: in IDLE, a SEND of at most 65532 bytes loads the frame, clears the error and the counters
and enters TX; no byte is pushed; everything else, every other byte of memory included, is unchanged. -/
def Obligations.SendLoadsFrame : Prop :=
  ∀ (p : List Byte) (s : State), s.phase = .idle → p.length ≤ 65532 →
    ∃ t : State,
      exec (.send p) s = .next t ∧
        t = { s with
              errcode := 0, errinfo := 0, txbuf := t.txbuf, txlen := BitVec.ofNat 17 (p.length + 8), txcnt := 0,
              txsum := 0, phase := .tx } ∧
        ∀ a : Nat, Memory.read t.txbuf a =
          if a < p.length + 8 then (encodeFrame s.gaddr s.daddr p)[a]? else Memory.read s.txbuf a

/-- Derived from R90, R105, R185 to R208: each of the 24 command rows, in IDLE and with arguments that fit, loads the
frame whose payload is the row's code, low byte first, and the arguments; everything else is unchanged, GADDR and DADDR
included. -/
def Obligations.CommandLoadsItsFrame : Prop :=
  ∀ r ∈ commandRows, ∀ (args : List Byte) (s : State), s.phase = .idle → args.length ≤ 65530 →
    ∃ t : State,
      exec (r.1 args) s = .next t ∧
        t = { s with
              errcode := 0, errinfo := 0, txbuf := t.txbuf, txlen := BitVec.ofNat 17 (args.length + 10), txcnt := 0,
              txsum := 0, phase := .tx } ∧
        ∀ a : Nat, Memory.read t.txbuf a =
          if a < args.length + 10 then
            (encodeFrame s.gaddr s.daddr (r.2.extractLsb' 0 8 :: r.2.extractLsb' 8 8 :: args))[a]?
          else Memory.read s.txbuf a

/-- Derived from R106 (the spec's own decision, D7): an oversized payload, of SEND or of a command row, is refused at
acceptance with ArgumentError: ERRCODE 5, ERRINFO 0, ERR(5, 0), PHASE stays IDLE, nothing else changes. -/
def Obligations.OversizePayloadRefused : Prop :=
  (∀ (p : List Byte) (s : State), s.phase = .idle → 65532 < p.length →
      exec (.send p) s = .next { s with errcode := 5, errinfo := 0, responses := s.responses ++ [.err 5 0] }) ∧
    ∀ r ∈ commandRows, ∀ (args : List Byte) (s : State), s.phase = .idle → 65530 < args.length →
      exec (r.1 args) s = .next { s with errcode := 5, errinfo := 0, responses := s.responses ++ [.err 5 0] }

/-- R107: the payload is opaque: every payload of at most 65532 bytes that a SEND request presents, whatever it begins
with and however short it is, has its frame loaded and its transmission begun, and nothing else changes; and the empty
payload at address 00 00 is framed and pushed as AA 01 00 03 00 00 00 52. -/
def Obligations.PayloadIsOpaque : Prop :=
  (∀ (p : List Byte) (s s1 : State), nextEvent s = some (.reqSend p, s1) → p.length ≤ 65532 →
      ∃ t : State,
        step s = .next t ∧
          t = { s1 with
                errcode := 0, errinfo := 0, txbuf := t.txbuf, txlen := BitVec.ofNat 17 (p.length + 8), txcnt := 0,
                txsum := 0, phase := .tx } ∧
          ∀ a : Nat, Memory.read t.txbuf a =
            if a < p.length + 8 then (encodeFrame s.gaddr s.daddr p)[a]? else Memory.read s.txbuf a) ∧
    ∀ (rest : List Event) (s : State), s.phase = .idle → s.gaddr = 0x00 → s.daddr = 0x00 →
      s.sched = .reqSend [] :: (List.replicate 8 Event.txAcc ++ rest) →
      ∃ t : State,
        Host.Core.run Sys2Proof.core 9 s = .next t ∧ t.responses = s.responses ++ [.sent] ∧
          t.txStream = s.txStream ++ [0xAA, 0x01, 0x00, 0x03, 0x00, 0x00, 0x00, 0x52]

/-! ### The command frame on the wire -/

/-- Derived from R105, R168: in TX the frame's byte number TXCNT is pushed, summed and counted; after the last one the
SEND ends in IDLE with SENT. Everything else is unchanged, all of memory included. -/
def Obligations.FrameByteTransmitted : Prop :=
  ∀ (len : Half) (g d : Byte) (p : List Byte) (cs b : Byte) (s : State), s.phase = .tx →
    (frameBytes len g d p cs)[s.txcnt.toNat]? = some b →
    exec (.cf len g d p cs) s =
      .next
        (if s.txcnt + 1 = s.txlen then
          { s with
            txStream := s.txStream ++ [b], txsum := s.txsum + b, txcnt := s.txcnt + 1, phase := .idle,
            responses := s.responses ++ [.sent] }
        else { s with txStream := s.txStream ++ [b], txsum := s.txsum + b, txcnt := s.txcnt + 1 })

/-- R168: at a TXACC in TX the byte TXBUF[TXCNT] is pushed and TXCNT incremented, and the byte that makes TXCNT = TXLEN
ends the SEND in the same step. The invariant rules out only states that no run reaches. -/
def Obligations.TransferPushesBufferByte : Prop :=
  ∀ s s1 : State, Inv s → nextEvent s = some (.txAcc, s1) →
    ∃ b : Byte, Memory.read s.txbuf s.txcnt.toNat = some b ∧
      step s =
        .next
          (if s.txcnt + 1 = s.txlen then
            { s1 with
              txStream := s.txStream ++ [b], txsum := s.txsum + b, txcnt := s.txcnt + 1, phase := .idle,
              responses := s.responses ++ [.sent] }
          else { s1 with txStream := s.txStream ++ [b], txsum := s.txsum + b, txcnt := s.txcnt + 1, phase := .tx })

/-- Derived from R111 (which the spec marks as its own derivation): without a transport failure, the net effect of a
SEND is to append the frame to the transmit stream, with TXLEN = TXCNT = |p| + 8, TXSUM = 0, ERRCODE = ERRINFO = 0,
the frame in TXBUF, and all else unchanged, in exactly |p| + 8 transmit-byte events after the request. -/
def Obligations.SendRunTransmitsFrame : Prop :=
  ∀ (p : List Byte) (rest : List Event) (s : State), s.phase = .idle → p.length ≤ 65532 →
    s.sched = .reqSend p :: (List.replicate (p.length + 8) Event.txAcc ++ rest) →
    ∃ t : State,
      Host.Core.run Sys2Proof.core (p.length + 9) s = .next t ∧
        t = { s with
              sched := rest, txStream := s.txStream ++ encodeFrame s.gaddr s.daddr p,
              responses := s.responses ++ [.sent], txlen := BitVec.ofNat 17 (p.length + 8),
              txcnt := BitVec.ofNat 17 (p.length + 8), txsum := 0, errcode := 0, errinfo := 0, txbuf := t.txbuf } ∧
        ∀ a : Nat, Memory.read t.txbuf a =
          if a < p.length + 8 then (encodeFrame s.gaddr s.daddr p)[a]? else Memory.read s.txbuf a

/-! ### RECV -/

/-- R136, R169: in IDLE, a RECV with DADDR other than 0x00 is refused with NoReply (ERRCODE 8, ERRINFO = DADDR, ERR(8,
DADDR), PHASE stays IDLE, DESYNC unchanged, and RXCNT still 0 where it was 0); otherwise it clears the error, RXCNT
and RXSUM and enters RXHDR. No byte is pulled and nothing else changes. -/
def Obligations.RecvRequestStep : Prop :=
  ∀ s : State, s.phase = .idle →
    (s.daddr ≠ 0x00 →
      ∃ t : State,
        exec .recv s = .next t ∧
          t = { s with
                errcode := 8, errinfo := s.daddr.setWidth 16,
                responses := s.responses ++ [.err 8 (s.daddr.setWidth 16)], rxcnt := t.rxcnt } ∧
          (s.rxcnt = 0 → t.rxcnt = 0)) ∧
      (s.daddr = 0x00 →
        exec .recv s = .next { s with errcode := 0, errinfo := 0, rxcnt := 0, rxsum := 0, phase := .rxhdr })

/-- Derived from R124: at the fifth header byte an accepted header captures the length in RXLEN and RLEN and enters
RXBODY; everything else is unchanged. -/
def Obligations.ReplyHeaderAccepted : Prop :=
  ∀ (len : Half) (s : State), s.phase = .rxhdr → s.rxcnt.toNat = 5 →
    exec (.rf len) s = .next { s with rxlen := len, rlen := len, phase := .rxbody }

/-- R121, R122, R123, R124, R170: a header byte is stored in RXHDR[RXCNT], summed and counted; no check is made before
the fifth; then BadHeader, BadDeviceId, or the length and RXBODY, in that order. The invariant rules out only states
that no run reaches. -/
def Obligations.HeaderByteStep : Prop :=
  ∀ (s s1 : State) (b : Byte), Inv s → s.phase = .rxhdr → nextEvent s = some (.rxByte b, s1) →
    ∃ (h : RxHdr) (s2 : State),
      h.bytes = s.rxhdr.bytes.set s.rxcnt.toNat b ∧
        s2 = { s1 with
               rxhdr := h, rxPulled := s.rxPulled ++ [b], rxsum := s.rxsum + b, rxcnt := s.rxcnt + 1 } ∧
        (s.rxcnt.toNat < 4 → step s = .next s2) ∧
        (s.rxcnt.toNat = 4 → h.tag ≠ 0xAB →
          step s =
            .next
              { s2 with
                errcode := 1, errinfo := h.tag.setWidth 16, desync := true, phase := .idle,
                responses := s.responses ++ [.err 1 (h.tag.setWidth 16)] }) ∧
        (s.rxcnt.toNat = 4 → h.tag = 0xAB → le16 h.devLo h.devHi ≠ 0x0001 →
          step s =
            .next
              { s2 with
                errcode := 2, errinfo := le16 h.devLo h.devHi, desync := true, phase := .idle,
                responses := s.responses ++ [.err 2 (le16 h.devLo h.devHi)] }) ∧
        (s.rxcnt.toNat = 4 → h.tag = 0xAB → le16 h.devLo h.devHi = 0x0001 →
          step s =
            .next { s2 with rxlen := le16 h.lenLo h.lenHi, rlen := le16 h.lenLo h.lenHi, phase := .rxbody })

/-- Derived from R125, R171: before the frame's last byte, a body byte is stored in RXBUF[RXCNT - 5], summed and
counted, and no check is made; every other byte of RXBUF and all else is unchanged. -/
def Obligations.BodyByteStored : Prop :=
  ∀ (s s1 : State) (b : Byte), s.phase = .rxbody → 5 ≤ s.rxcnt.toNat → s.rxcnt.toNat < 5 + s.rxlen.toNat →
    nextEvent s = some (.rxByte b, s1) →
    ∃ t : State,
      step s = .next t ∧
        t = { s1 with
              rxbuf := t.rxbuf, rxPulled := s.rxPulled ++ [b], rxsum := s.rxsum + b, rxcnt := s.rxcnt + 1 } ∧
        ∀ a : Nat, Memory.read t.rxbuf a = if a = s.rxcnt.toNat - 5 then some b else Memory.read s.rxbuf a

/-- Derived from R120, R131, R132, R134: the frame's last byte ends the RECV in IDLE, in that step, with the outcome
DecodeReply gives for the header, the region in RXBUF and this checksum byte; RXCS, RXSUM, RXCNT take the byte; buffers
and configuration are unchanged. -/
def Obligations.LastByteEndsReply : Prop :=
  ∀ (s s1 : State) (b : Byte), Inv s → s.phase = .rxbody → s.rxcnt.toNat = 5 + s.rxlen.toNat →
    nextEvent s = some (.rxByte b, s1) →
    ∃ (r : List Byte) (t : State),
      Memory.readAll s.rxbuf 0 s.rxlen.toNat = some r ∧ step s = .next t ∧ t.phase = .idle ∧
        t.responses =
          s.responses ++ [responseOf (checkReply s.rxck (s.rxhdr.bytes ++ r ++ [b]) s.rxlen r)] ∧
        t.rxcs = b ∧ t.rxsum = s.rxsum + b ∧ t.rxcnt = s.rxcnt + 1 ∧ t.rxPulled = s.rxPulled ++ [b] ∧
        t.rxhdr = s.rxhdr ∧ t.rxbuf = s.rxbuf ∧ t.txbuf = s.txbuf ∧ t.rxlen = s.rxlen ∧ t.rlen = s.rlen ∧
        t.txlen = s.txlen ∧ t.txcnt = s.txcnt ∧ t.txsum = s.txsum ∧ t.freeCount = s.freeCount ∧
        t.gaddr = s.gaddr ∧ t.daddr = s.daddr ∧ t.rxck = s.rxck ∧ t.txStream = s.txStream ∧ t.sched = s1.sched

/-- Derived from R120, R133, R134: a RECV over any bytes that DecodeReply consumes whole gives DecodeReply's outcome and
consumes exactly those bytes, the count left in RXCNT; nothing is pushed and the configuration is unchanged. -/
def Obligations.RecvRunMatchesDecodeReply : Prop :=
  ∀ (bytes : List Byte) (rest : List Event) (o : ReplyOutcome) (s : State), s.phase = .idle → s.daddr = 0x00 →
    decodeReply bytes s.rxck = some (o, bytes.length) →
    s.sched = .reqRecv :: (bytes.map Event.rxByte ++ rest) →
    ∃ t : State,
      Host.Core.run Sys2Proof.core (bytes.length + 1) s = .next t ∧ t.phase = .idle ∧ t.sched = rest ∧
        t.responses = s.responses ++ [responseOf o] ∧ t.rxPulled = s.rxPulled ++ bytes ∧
        t.rxcnt.toNat = bytes.length ∧ t.txStream = s.txStream ∧ t.txbuf = s.txbuf ∧ t.gaddr = s.gaddr ∧
        t.daddr = s.daddr ∧ t.rxck = s.rxck

/-! ### The reply rows -/

/-- Derived from R126, R128, R135: a complete reply with a code other than 0xFFFF that the validator does not stop
succeeds, whatever the code: RCODE is noted, DATA carries code and payload, PHASE is IDLE, all else is unchanged, RSTAT
included. -/
def Obligations.DataReplyDelivered : Prop :=
  ∀ (code : Half) (payload : List Byte) (s : State), code ≠ 0xFFFF → s.phase = .rxbody →
    s.rxcnt.toNat = s.rxlen.toNat + 6 → (s.rxck = false ∨ s.rxsum = 0) →
    exec (.dataReply code payload) s =
      .next { s with rcode := code, phase := .idle, responses := s.responses ++ [.data code payload] }

/-- Derived from R130, R210: a feedback reply with status OK, by its own row or as FEEDBACK, succeeds, and its returned
payload begins with the status byte; RCODE and RSTAT are noted and all else is unchanged. -/
def Obligations.FeedbackOkDelivered : Prop :=
  ∀ (rest : List Byte) (s : State), s.phase = .rxbody → s.rxcnt.toNat = s.rxlen.toNat + 6 →
    (s.rxck = false ∨ s.rxsum = 0) →
    ∀ i : Instr, (i = .fbOk rest ∨ i = .feedback (0x00 :: rest)) →
      exec i s =
        .next
          { s with
            rcode := 0xFFFF, rstat := 0x00, phase := .idle,
            responses := s.responses ++ [.data 0xFFFF (0x00 :: rest)] }

/-- Derived from R129, R211 to R216, R243: a feedback reply with any other status, by its own row or as FEEDBACK, ends
in CommandError with the status byte as detail: ERR(3, status), DESYNC not changed, RCODE and RSTAT noted, all else
unchanged. -/
def Obligations.FeedbackRejectsCommand : Prop :=
  ∀ (st : Byte) (rest : List Byte) (s : State), s.phase = .rxbody → s.rxcnt.toNat = s.rxlen.toNat + 6 →
    (s.rxck = false ∨ s.rxsum = 0) → st ≠ 0x00 →
    ∀ i : Instr,
      (i = .feedback (st :: rest) ∨ (∃ r ∈ rejectionRows, i = r.1 rest ∧ st = r.2) ∨
        (6 ≤ st.toNat ∧ i = .fbUnknown st rest)) →
      exec i s =
        .next
          { s with
            rcode := 0xFFFF, rstat := st, errcode := 3, errinfo := st.setWidth 16, phase := .idle,
            responses := s.responses ++ [.err 3 (st.setWidth 16)] }

/-- Derived from R127 (the spec's own decision, D10): a reply with RXLEN < 2, and a feedback reply without a status
byte, end in ShortFrame with ERRINFO = RXLEN, DESYNC set; RCODE is written in the second case and not in the first;
all else is unchanged. -/
def Obligations.ShortFrameRaised : Prop :=
  ∀ s : State, s.phase = .rxbody → s.rxcnt.toNat = s.rxlen.toNat + 6 → (s.rxck = false ∨ s.rxsum = 0) →
    (s.rxlen.toNat < 2 → ∀ len : Half,
      exec (.rf len) s =
        .next
          { s with
            errcode := 7, errinfo := s.rxlen, desync := true, phase := .idle,
            responses := s.responses ++ [.err 7 s.rxlen] }) ∧
      exec (.feedback []) s =
        .next
          { s with
            rcode := 0xFFFF, errcode := 7, errinfo := s.rxlen, desync := true, phase := .idle,
            responses := s.responses ++ [.err 7 s.rxlen] }

/-- Derived from R131, R132: with RXCK = 1 and a residue in RXSUM, every reply row ends in ChecksumMismatch with the
residue as detail, before its length, code or status is believed; RCODE and RSTAT are not written. -/
def Obligations.ChecksumMismatchComesFirst : Prop :=
  ∀ (s : State), s.phase = .rxbody → s.rxcnt.toNat = s.rxlen.toNat + 6 → s.rxck = true → s.rxsum ≠ 0 →
    ∀ i : Instr,
      ((∃ tail, i = .feedback tail) ∨ (∃ code payload, i = .dataReply code payload) ∨ (∃ rest, i = .fbOk rest) ∨
        (∃ r ∈ rejectionRows, ∃ rest, i = r.1 rest) ∨ (∃ st rest, i = .fbUnknown st rest) ∨
        (s.rxlen.toNat < 2 ∧ ∃ len, i = .rf len)) →
      exec i s =
        .next
          { s with
            errcode := 6, errinfo := s.rxsum.setWidth 16, desync := true, phase := .idle,
            responses := s.responses ++ [.err 6 (s.rxsum.setWidth 16)] }

/-- Derived from R141: with RXCK = 0 the outcome of a RECV does not depend on the checksum byte: two runs that differ
only in it end in states that differ only in the byte itself, its sum, and the record of pulled bytes. -/
def Obligations.ChecksumByteIgnoredWhenOff : Prop :=
  ∀ (s : State) (b b' : Byte) (rest : List Event), Inv s → s.phase = .rxbody →
    s.rxcnt.toNat = 5 + s.rxlen.toNat → s.rxck = false → s.sched = .rxByte b :: rest →
    ∃ t : State,
      step s = .next t ∧
        step { s with sched := .rxByte b' :: rest } =
          .next { t with rxcs := b', rxsum := s.rxsum + b', rxPulled := s.rxPulled ++ [b'] }

/-! ### RDCR, STATUS, RESET -/

/-- Derived from R30 to R39, R176: in IDLE, RDCR answers the register's value, 0 above 8, and changes no register, so
that ERRCODE and ERRINFO can be read again. -/
def Obligations.RdcrReadsRegister : Prop :=
  ∀ (n : Nat) (s : State), s.phase = .idle →
    ∃ v : BitVec 32,
      exec (.rdcr n) s = .next { s with responses := s.responses ++ [.val v] } ∧
        (n = 0 → v.toNat = s.gaddr.toNat + 256 * s.daddr.toNat) ∧ (n = 1 → v.toNat = s.rxck.toNat) ∧
        (n = 2 → v = 0x0001ABAA) ∧
        (n = 3 → v.toNat = 2 * s.desync.toNat + 16 * (decide (s.daddr = 0x00)).toNat) ∧
        (n = 4 → v.toNat = s.errcode.toNat) ∧ (n = 5 → v.toNat = s.errinfo.toNat) ∧
        (n = 6 → v.toNat = s.rcode.toNat) ∧ (n = 7 → v.toNat = s.rstat.toNat) ∧
        (n = 8 → v.toNat = s.rlen.toNat) ∧ (8 < n → v = 0)

/-- Derived from R34, with the codes of PHASE from R20 and R24: the fields of STATUS in every phase, by their bits. -/
def Obligations.StatusRegisterBits : Prop :=
  ∀ s : State,
    (crStatus s).getLsbD 0 = decide (s.phase ≠ .idle) ∧ (crStatus s).getLsbD 1 = s.desync ∧
      (s.phase = .idle → (crStatus s).extractLsb' 2 2 = 0) ∧ (s.phase = .tx → (crStatus s).extractLsb' 2 2 = 1) ∧
      (s.phase = .rxhdr → (crStatus s).extractLsb' 2 2 = 2) ∧ (s.phase = .rxbody → (crStatus s).extractLsb' 2 2 = 3) ∧
      (crStatus s).getLsbD 4 = decide (s.daddr = 0x00) ∧
      (crStatus s).extractLsb' 5 3 = 0

/-- Derived from R46, R271 (the spec's own decision, D17): a RESET in any phase writes every component R46's table
gives a value, leaves CR[2] hardwired, sends no response, and touches neither stream nor what the environment still
holds. RXHDR and the buffers are unspecified. That RESET keeps the records and the pending events is the model's form
of R271 (entries 1, 9). -/
def Obligations.ResetWritesState : Prop :=
  ∀ (g d : Byte) (k : Bool) (s : State),
    ∃ t : State,
      exec (.reset g d k) s = .next t ∧ t.gaddr = g ∧ t.daddr = d ∧ t.rxck = k ∧ t.phase = .idle ∧ t.txlen = 0 ∧
        t.txcnt = 0 ∧ t.rxcnt = 0 ∧ t.rxlen = 0 ∧ t.txsum = 0 ∧ t.rxsum = 0 ∧ t.rxcs = 0 ∧ t.errcode = 0 ∧
        t.errinfo = 0 ∧ t.desync = false ∧ t.rcode = 0 ∧ t.rstat = 0 ∧ t.rlen = 0 ∧
        controlRegister 2 t = 0x0001ABAA ∧ t.txStream = s.txStream ∧ t.rxPulled = s.rxPulled ∧
        t.responses = s.responses ∧ t.sched = s.sched

/-! ### Errors and transport failures -/

/-- Derived from R250, R240: what raising each of the eight errors does, with the codes of R240: ERRCODE, ERRINFO,
DESYNC for five of them, PHASE = IDLE, the ERR response, and nothing else. -/
def Obligations.RaiseWritesErrorRegisters : Prop :=
  ∀ x ∈ ([(Error.badHeader, 1, true), (.badDeviceId, 2, true), (.commandError, 3, false), (.transportError, 4, true),
      (.argumentError, 5, false), (.checksumMismatch, 6, true), (.shortFrame, 7, true), (.noReply, 8, false)] :
      List (Error × BitVec 4 × Bool)),
    ∀ (info : Half) (s : State),
      raise x.1 info s =
        { s with
          errcode := x.2.1, errinfo := info, desync := s.desync || x.2.2, phase := .idle,
          responses := s.responses ++ [.err x.2.1 info] }

/-- R175: an XFAIL in TX, RXHDR or RXBODY ends the operation with TransportError: ERRCODE 4, ERRINFO the kind's code,
DESYNC set, ERR(4, code), IDLE; nothing else changes. -/
def Obligations.TransportFailureEndsOperation : Prop :=
  ∀ x ∈ ([(FailKind.timeout, 1), (.disconnect, 2), (.closed, 3)] : List (FailKind × Half)),
    ∀ s s1 : State, nextEvent s = some (.xfail x.1, s1) →
      s.phase ≠ .idle ∧
        step s =
          .next
            { s1 with
              errcode := 4, errinfo := x.2, desync := true, phase := .idle,
              responses := s.responses ++ [.err 4 x.2] }

/-- Derived from R258 (the spec's own decision, D13): outside RESET, DESYNC becomes set exactly when the step answers
an ERR with the code of BadHeader, BadDeviceId, TransportError, ChecksumMismatch or ShortFrame, and it is never
cleared. -/
def Obligations.DesyncSetByFiveErrors : Prop :=
  ∀ (s s1 t : State) (e : Event), nextEvent s = some (e, s1) → step s = .next t → e.isReset = false →
    (t.desync = true ↔
      s.desync = true ∨
        ∃ (c : BitVec 4) (info : Half), t.responses = s.responses ++ [.err c info] ∧
          (c = 1 ∨ c = 2 ∨ c = 4 ∨ c = 6 ∨ c = 7))

/-- Derived from R40: DESYNC never changes what the block does: apart from a RESET and from an RDCR, whose value shows
the flag, a step with the flag set is the step without it, the flag staying set. -/
def Obligations.DesyncDoesNotSteer : Prop :=
  ∀ (s s1 t : State) (e : Event), nextEvent s = some (e, s1) → e.isReset = false → (∀ n, e ≠ .reqRdcr n) →
    s.desync = false → step s = .next t → step { s with desync := true } = .next { t with desync := true }

/-! ### The whole machine -/

/-- Derived from R165 to R176: a step runs the decoded instruction. The event is taken; a request runs as it stands, a
SEND as the command its payload decodes to; a TXACC runs the frame that TXBUF decodes to; the fifth header byte and the
last body byte are stored, summed and counted first, and then the header in RXHDR, or the region in RXBUF by its status,
by its code, or as a frame without a code, runs. At which event each row is fetched is the model's choice (entry 7). -/
def Obligations.StepRunsDecodedInstruction : Prop :=
  ∀ (s s1 : State) (i : Instr),
    (∀ p, nextEvent s = some (.reqSend p, s1) → decode (.bytes .cfCode p) = .ok i → step s = exec i s1) ∧
      (∀ p, nextEvent s = some (.reqSend p, s1) → (∀ j, decode (.bytes .cfCode p) ≠ .ok j) →
        step s = exec (.send p) s1) ∧
      (nextEvent s = some (.reqRecv, s1) → step s = exec .recv s1) ∧
      (∀ n, nextEvent s = some (.reqRdcr n, s1) → step s = exec (.rdcr n) s1) ∧
      (∀ g d k, nextEvent s = some (.reset g d k, s1) → step s = exec (.reset g d k) s1) ∧
      (∀ f, nextEvent s = some (.txAcc, s1) → Memory.readAll s.txbuf 0 s.txlen.toNat = some f →
        decode (.bytes .cf f) = .ok i → step s = exec i s1) ∧
      (∀ (b : Byte) (h : RxHdr), nextEvent s = some (.rxByte b, s1) → s.phase = .rxhdr → s.rxcnt.toNat = 4 →
        h = { s.rxhdr with lenHi := b } → decode (.bytes .rf h.bytes) = .ok i →
        step s =
          exec i
            { s1 with
              rxhdr := h, rxPulled := s.rxPulled ++ [b], rxsum := s.rxsum + b, rxcnt := s.rxcnt + 1 }) ∧
      ∀ (b : Byte) (r : List Byte), nextEvent s = some (.rxByte b, s1) → s.phase = .rxbody →
        s.rxcnt.toNat = 5 + s.rxlen.toNat → Memory.readAll s.rxbuf 0 s.rxlen.toNat = some r →
        (decode (.bytes .rfFeedback r) = .ok i ∨
          ((∀ j, decode (.bytes .rfFeedback r) ≠ .ok j) ∧ decode (.bytes .rfCode r) = .ok i) ∨
          ((∀ j, decode (.bytes .rfCode r) ≠ .ok j) ∧ i = .rf s.rxlen)) →
        step s =
          exec i
            { s1 with rxcs := b, rxPulled := s.rxPulled ++ [b], rxsum := s.rxsum + b, rxcnt := s.rxcnt + 1 }

/-- Derived. The invariant `Inv` of Sys2Proof.Safety (from R24 to R29, R35, R36, R39, R42, R43, R104, R154, R240) is
kept by every step from every state that has it. -/
def Obligations.InvKeptByEveryStep : Prop :=
  ∀ s t : State, Inv s → step s = .next t → Inv t

/-- Derived from R46: the invariant holds at reset. It does not rest on the straps' or RXHDR's chosen values. -/
def Obligations.InvHoldsAtReset : Prop :=
  ∀ (g d : Byte) (k : Bool) (h : RxHdr),
    Inv { State.reset with gaddr := g, daddr := d, rxck := k, rxhdr := h } ∧ Inv State.reset

/-- Derived from R46, V12: from a state with the invariant no step faults: no buffer entry without a value is read and
no counter leaves its range. That such reads and counters would fault is the model's choice (entries 5, 11). -/
def Obligations.NoFaultFromInvariant : Prop :=
  ∀ (s : State) (f : Fault), Inv s → step s ≠ .fault f

/-- Derived from R42, R43; the canonical form is the model's choice (entry 5). The buffers' canonical form, and with
it the arrays' sizes, is kept by every step from every state that has it, reachable or not. -/
def Obligations.CanonicalFormKept : Prop :=
  ∀ s t : State, canonical s → step s = .next t → canonical t

/-- Derived from R166 (the spec's own decision, D28): which events are enabled in which phase. The rest is the model's
form of R166: the pending events are a list of which the step takes the first enabled one and leaves every other where
it was (entry 1, DESIGN CHOICE); with none enabled the answer is the refusal noEnabledEvent, and a host operation
outside IDLE answers the refusal notEnabled (entry 8, DEDUCED from R166's "no step"). -/
def Obligations.DisabledEventsTakeNoStep : Prop :=
  (∀ (ph : Phase) (g d : Byte) (k : Bool), enabled ph (.reset g d k) = true) ∧
    (∀ (ph : Phase) (p : List Byte), enabled ph (.reqSend p) = true ↔ ph = .idle) ∧
    (∀ ph : Phase, enabled ph .reqRecv = true ↔ ph = .idle) ∧
    (∀ (ph : Phase) (n : Nat), enabled ph (.reqRdcr n) = true ↔ ph = .idle) ∧
    (∀ ph : Phase, enabled ph .txAcc = true ↔ ph = .tx) ∧
    (∀ (ph : Phase) (b : Byte), enabled ph (.rxByte b) = true ↔ ph = .rxhdr ∨ ph = .rxbody) ∧
    (∀ (ph : Phase) (k : FailKind), enabled ph (.xfail k) = true ↔ ph ≠ .idle) ∧
    (∀ s t : State, step s = .next t →
      ∃ (pre post : List Event) (e : Event), s.sched = pre ++ e :: post ∧ enabled s.phase e = true ∧
        (∀ x ∈ pre, enabled s.phase x = false) ∧ t.sched = pre ++ post) ∧
    (∀ s : State, (∀ e ∈ s.sched, enabled s.phase e = false) ↔ step s = .refused .noEnabledEvent) ∧
    ∀ (s : State) (i : Instr), s.phase ≠ .idle →
      ((∃ p, i = .send p) ∨ i = .recv ∨ (∃ n, i = .rdcr n) ∨ (∃ r ∈ commandRows, ∃ args, i = r.1 args)) →
      exec i s = .refused .notEnabled

/-- Derived from R172 (which the spec marks as its own derivation): outside RESET, a step from a busy phase either
stays in the operation (RXHDR to RXBODY the only change) and sends nothing, or ends in IDLE with exactly one response.
-/
def Obligations.OperationEndsWithOneResponse : Prop :=
  ∀ (s s1 t : State) (e : Event), nextEvent s = some (e, s1) → step s = .next t → e.isReset = false →
    s.phase ≠ .idle →
    ((t.phase = s.phase ∨ (s.phase = .rxhdr ∧ t.phase = .rxbody)) ∧ t.responses = s.responses) ∨
      (t.phase = .idle ∧ ∃ r : Response, t.responses = s.responses ++ [r])

/-- Derived from R21, R22, R23, R157: the address pair and RXCK are loaded by RESET from its straps and written by
nothing else. -/
def Obligations.ConfigurationWrittenByResetOnly : Prop :=
  ∀ (s s1 t : State) (e : Event), nextEvent s = some (e, s1) → step s = .next t →
    (e.isReset = false → t.gaddr = s.gaddr ∧ t.daddr = s.daddr ∧ t.rxck = s.rxck) ∧
      ∀ g d k, e = .reset g d k → t.gaddr = g ∧ t.daddr = d ∧ t.rxck = k

/-- Derived from R53, R55, R57, R60: a step pushes one byte at a TXACC and none otherwise, pulls the delivered byte at
an RXBYTE and none otherwise, and never takes back a byte or a response. -/
def Obligations.StreamsGrowByOneByte : Prop :=
  ∀ (s s1 t : State) (e : Event), nextEvent s = some (e, s1) → step s = .next t →
    ((∃ b, e = .txAcc ∧ t.txStream = s.txStream ++ [b]) ∨ (e ≠ .txAcc ∧ t.txStream = s.txStream)) ∧
      ((∃ b, e = .rxByte b ∧ t.rxPulled = s.rxPulled ++ [b]) ∨
        ((∀ b, e ≠ .rxByte b) ∧ t.rxPulled = s.rxPulled)) ∧
      ∃ rs : List Response, t.responses = s.responses ++ rs ∧ rs.length ≤ 1

/-- Derived from R154, R155: while the bound device address is not DIRECT, no step pulls a byte of the receive stream.
The invariant rules out only states that no run reaches. -/
def Obligations.NoPullUnlessDirect : Prop :=
  ∀ s t : State, Inv s → s.daddr ≠ 0x00 → step s = .next t → t.rxPulled = s.rxPulled

/-- Derived from R63: while a frame is being transmitted, nothing short of RESET alters TXBUF or TXLEN. -/
def Obligations.FrameInProgressIsLatched : Prop :=
  ∀ (s s1 t : State) (e : Event), nextEvent s = some (e, s1) → step s = .next t → e.isReset = false →
    s.phase = .tx → t.txbuf = s.txbuf ∧ t.txlen = s.txlen

/-- Derived from R29, R37, R38, R39: the reply's registers and RXBUF are written by received bytes and RESET only. -/
def Obligations.ReplyRegistersWrittenByBytesOnly : Prop :=
  ∀ (s s1 t : State) (e : Event), nextEvent s = some (e, s1) → step s = .next t → e.isReset = false →
    (∀ b, e ≠ .rxByte b) →
    t.rcode = s.rcode ∧ t.rstat = s.rstat ∧ t.rlen = s.rlen ∧ t.rxlen = s.rxlen ∧ t.rxcs = s.rxcs ∧
      t.rxhdr = s.rxhdr ∧ t.rxbuf = s.rxbuf

/-! ### Host software (outside the block, R3) -/

/-- Derived from R229, R5: whatever the 64 fragments after SENT are, the capture returns the image of their payloads
from offset 3 on, in their order, with the sum of each payload's length minus 3 (0 where it is shorter) as its length;
one response among the 64 that is no DATA makes the capture end with an error. That the capture reads, and so ends as
said here, whatever the device address is the model's choice (entry 15). -/
def Obligations.PictureLengthIsSumOfFragments : Prop :=
  ∀ (g d : Byte) (args : List Byte),
    (∀ qs : List (Half × List Byte), qs.length = 64 →
        ∃ im : List Byte,
          nextMove g d (capturePicture args) (.sent :: qs.map fun q => Response.data q.1 q.2) =
              .result (.ok (.image im)) ∧
            im = (qs.map fun q => q.2.drop 3).flatten ∧ im.length = (qs.map fun q => q.2.length - 3).sum) ∧
      ∀ (rs : List Response) (r : Response), r ∈ rs.take 64 → (∀ c q, r ≠ .data c q) →
        ∃ e : HostError, nextMove g d (capturePicture args) (.sent :: rs) = .result (.error e)

/-- Derived from R221, R229, R232: a picture capture presents one SEND of its command; an ERR response to it is
returned; after SENT and fewer than 64 fragments it presents one more RECV; and at an ERR response it returns that
error with its information to the caller, whatever follows, and presents nothing more. That GET_PICTURE, 95 80 on the
wire, is the capture's command the spec derives from the names only (R198; entry 15); that the capture reads whatever
the device address is the model's choice (entry 15). -/
def Obligations.CaptureStopsAtFirstError : Prop :=
  ∀ (g d : Byte) (args : List Byte),
    nextMove g d (capturePicture args) [] = .request (.reqSend (0x95 :: 0x80 :: args)) ∧
      (∀ (e : Error) (info : Half) (rest : List Response),
        nextMove g d (capturePicture args) (.err e.code info :: rest) = .result (.error (.block e info))) ∧
      ∀ qs : List (Half × List Byte), qs.length < 64 →
        nextMove g d (capturePicture args) (.sent :: qs.map fun q => Response.data q.1 q.2) = .request .reqRecv ∧
          ∀ (e : Error) (info : Half) (rest : List Response),
            nextMove g d (capturePicture args)
                (.sent :: ((qs.map fun q => Response.data q.1 q.2) ++ .err e.code info :: rest)) =
              .result (.error (.block e info))

/-- Derived from R90, R221, R232: an operation other than the picture capture whose arguments pass presents its SEND
first; after SENT it presents one RECV where a reply is expected and returns where none is; it reads the payload of the
DATA response; and an ERR response to either request is returned with its information. Three points are the model's
choice (entry 15): that every such operation reads a reply exactly where DADDR is 0x00, that it succeeds with `done`
where it reads none, and that a payload is read by the operation's reading and the payload alone. -/
def Obligations.SessionOperationInOrder : Prop :=
  ∀ (g d : Byte) (op : Operation) (r : Reading), op.argumentsValid = true → op.kind = .one r →
    nextMove g d op [] = .request (.reqSend op.payload) ∧
      (d = 0x00 → nextMove g d op [.sent] = .request .reqRecv) ∧
      (d ≠ 0x00 → nextMove g d op [.sent] = .result (.ok .done)) ∧
      (∀ (c : Half) (q : List Byte), d = 0x00 →
        nextMove g d op [.sent, .data c q] = .result (interpretPayload r q)) ∧
      ∀ (e : Error) (info : Half),
        nextMove g d op [.err e.code info] = .result (.error (.block e info)) ∧
          (d = 0x00 → nextMove g d op [.sent, .err e.code info] = .result (.error (.block e info)))

/-- Derived from R226, R185, R186: a volume level outside 0 to 8 or a standby status outside 0 to 1 gives the host's
ArgumentError and presents no request to the block: the session returns it and leaves the block as it was; every other
level or status has its SEND presented, the code's bytes first. -/
def Obligations.FailedCheckPresentsNoRequest : Prop :=
  ∀ (v : Int) (g d : Byte) (rs : List Response),
    ((v < 0 ∨ 8 < v) → nextMove g d (setVolume v) rs = .result (.error .argument)) ∧
      ((v < 0 ∨ 1 < v) → nextMove g d (setStandby v) rs = .result (.error .argument)) ∧
      (0 ≤ v → v ≤ 8 →
        ∃ args : List Byte, nextMove g d (setVolume v) [] = .request (.reqSend (0x80 :: 0x00 :: args))) ∧
      (0 ≤ v → v ≤ 1 →
        ∃ args : List Byte, nextMove g d (setStandby v) [] = .request (.reqSend (0x81 :: 0x00 :: args))) ∧
      ∀ (h : Hosted) (σ : Session), h.session = some σ → σ.waiting = false →
        (σ.task = some (.command (.setVolume v)) ∧ (v < 0 ∨ 8 < v) ∨
          σ.task = some (.command (.setStandby v)) ∧ (v < 0 ∨ 1 < v)) →
        ∃ h' : Hosted, h.act .advance = some h' ∧ h'.block = h.block ∧ h'.returned = h.returned ++ [.error .argument]

/-- Derived from R220, R227, R82: every device command's payload is a listed code, low byte first, and argument bytes
whose number is fixed for the code, three for the baud rate; and every listed code has its operation. That the baud
rate's three stand alone is the model's choice (entry 15). -/
def Obligations.DeviceCommandPayloads : Prop :=
  (∀ c : DeviceCommand, ∃ r ∈ commandRows, ∃ args : List Byte,
      c.operation.payload = r.2.extractLsb' 0 8 :: r.2.extractLsb' 8 8 :: args ∧ args.length = argumentWidth r.2 ∧
        args.length ≤ 65530) ∧
    argumentWidth 0x7879 = 3 ∧
    ∀ r ∈ commandRows, ∃ (c : DeviceCommand) (args : List Byte),
      c.operation.payload = r.2.extractLsb' 0 8 :: r.2.extractLsb' 8 8 :: args

/-- Derived from R220, R221: only the session presents the host's events: going on, it presents nothing, or exactly the
request its task wants next; and no caller, no transport and no step of the block adds a RESET or a request. -/
def Obligations.SessionIsOnlyIssuer : Prop :=
  ∀ (h h' : Hosted) (a : HostedAction), h.act a = some h' → (∀ g d k, a ≠ .openSession g d k) →
    (h'.hostEvents.Sublist h.hostEvents ∨
      ∃ (σ : Session) (t : Task) (e : Event), a = .advance ∧ h.session = some σ ∧ σ.task = some t ∧
        σ.waiting = false ∧ t.move σ.gaddr σ.daddr σ.got = .request e ∧ h'.hostEvents = h.hostEvents ++ [e])

/-- Derived from R21, R220, R272: opening a session presents RESET with its straps and binds their address pair; the
block's next step is that RESET. That the task of the session before it is not carried on, that its caller is given an
error, and that its waiting request is withdrawn, is the model's choice (entry 15). -/
def Obligations.OpenedSessionResetsBlock : Prop :=
  ∀ (h : Hosted) (g d : Byte) (k : Bool), ∃ (h' : Hosted) (σ : Session) (t : State),
    h.act (.openSession g d k) = some h' ∧ h'.session = some σ ∧ σ.gaddr = g ∧ σ.daddr = d ∧ σ.rxck = k ∧
      σ.task = none ∧ h'.hostEvents = [.reset g d k] ∧
      (∀ (τ : Session) (u : Task), h.session = some τ → τ.task = some u →
        h'.returned = h.returned ++ [.error .abandoned]) ∧
      ((∀ (τ : Session) (u : Task), h.session = some τ → τ.task ≠ some u) → h'.returned = h.returned) ∧
      step h'.block = .next t ∧ t.gaddr = g ∧ t.daddr = d ∧ t.rxck = k ∧ t.phase = .idle ∧
      t.responses = h.block.responses

/-- Derived from R212, R232, R240: each of the eight errors reaches the caller with its code's name and its information,
and the CommandError of status 0x02 carries the display string "Wrong command". -/
def Obligations.ErrorsReachTheCaller : Prop :=
  (∀ (e : Error) (info : Half), hostErrorOf (.err e.code info) = .block e info) ∧
    (hostErrorOf (.err 3 0x0002)).reasonText = some "Wrong command"

/-- Derived from R222, R223: ten zero bytes parse, and every field then resolves to a display string, seven of which the
source gives. -/
def Obligations.IndexZeroStringsResolve : Prop :=
  ∃ i : SignalInfo,
    parseSignalInfo [0, 0, 0, 0, 0, 0, 0, 0, 0, 0] = .ok i ∧
      displaySignal i .colorSpace = .ok "RGB444" ∧ displaySignal i .colorDepth = .ok "24bit" ∧
      displaySignal i .hdcpLevel = .ok "Clear" ∧ displaySignal i .sourceType = .ok "HDMI" ∧
      displaySignal i .audioSampleRate = .ok "Invalid" ∧ displaySignal i .mode3d = .ok "2D" ∧
      displaySignal i .pixelRepetition = .ok "1x" ∧ ∀ f : SignalField, ∃ t : String, displaySignal i f = .ok t

/-- Derived from R191, R227: a baud rate's argument bytes are the low three bytes of its 32-bit little-endian value. -/
def Obligations.BaudRateSendsLowThreeBytes : Prop :=
  ∀ v : BitVec 32, ∃ b0 b1 b2 : Byte,
    baudArgs v = [b0, b1, b2] ∧ b0.toNat + 256 * b1.toNat + 65536 * b2.toNat = v.toNat % 16777216
end

