-- ==== Sys2Proof/Laws/Bytes.lean ====
section
/-! SUPPORT. Byte order, sums and checksums, and the shape of frames. -/

namespace Sys2Proof

theorem toNat_lo8 (v : Half) : (lo8 v).toNat = v.toNat % 256 := by
  simp [lo8, BitVec.extractLsb'_toNat]

theorem toNat_hi8 (v : Half) : (hi8 v).toNat = v.toNat / 256 := by
  have := v.isLt
  simp only [hi8, BitVec.extractLsb'_toNat, Nat.shiftRight_eq_div_pow]
  omega

theorem toNat_le16 (b0 b1 : Byte) : (le16 b0 b1).toNat = b0.toNat + 256 * b1.toNat := by
  have := b0.isLt
  have := b1.isLt
  simp only [le16, BitVec.toNat_ofNat]
  omega

/-- A 16-bit value sent low byte first and assembled again (R50). -/
@[simp] theorem le16_lo8_hi8 (v : Half) : le16 (lo8 v) (hi8 v) = v := by
  apply BitVec.eq_of_toNat_eq
  rw [toNat_le16, toNat_lo8, toNat_hi8]
  omega

@[simp] theorem lo8_le16 (b0 b1 : Byte) : lo8 (le16 b0 b1) = b0 := by
  apply BitVec.eq_of_toNat_eq
  rw [toNat_lo8, toNat_le16]
  have := b0.isLt
  omega

@[simp] theorem hi8_le16 (b0 b1 : Byte) : hi8 (le16 b0 b1) = b1 := by
  apply BitVec.eq_of_toNat_eq
  rw [toNat_hi8, toNat_le16]
  have := b0.isLt
  omega

@[simp] theorem lo8_devId : lo8 Config.devId = 0x01 := by decide

@[simp] theorem hi8_devId : hi8 Config.devId = 0x00 := by decide

theorem byteSum_append (s t : List Byte) : byteSum (s ++ t) = byteSum s + byteSum t := by
  induction s with
  | nil => simp [byteSum]
  | cons b s ih => simp [byteSum, ih, Nat.add_assoc]

theorem toNat_sum8 (s : List Byte) : (sum8 s).toNat = byteSum s % 256 := by
  simp [sum8]

@[simp] theorem sum8_nil : sum8 [] = 0 := rfl

/-- A running sum: one byte more is one addition modulo 256 (R103). -/
theorem sum8_append_singleton (s : List Byte) (b : Byte) : sum8 (s ++ [b]) = sum8 s + b := by
  apply BitVec.eq_of_toNat_eq
  rw [toNat_sum8, byteSum_append, BitVec.toNat_add, toNat_sum8]
  simp [byteSum]

/-- The checksum byte makes the whole sum 0 (R104). -/
theorem sum8_append_checksum (s : List Byte) : sum8 (s ++ [checksum s]) = 0 := by
  apply BitVec.eq_of_toNat_eq
  rw [toNat_sum8, byteSum_append]
  simp only [byteSum, checksum, BitVec.toNat_ofNat, Nat.add_zero, BitVec.ofNat_eq_ofNat, Nat.zero_mod]
  omega

@[simp] theorem length_frameBody (g d : Byte) (p : List Byte) : (frameBody g d p).length = p.length + 7 := by
  simp [frameBody]

@[simp] theorem length_encodeFrame (g d : Byte) (p : List Byte) : (encodeFrame g d p).length = p.length + 8 := by
  simp [encodeFrame]

theorem sum8_encodeFrame (g d : Byte) (p : List Byte) : sum8 (encodeFrame g d p) = 0 :=
  sum8_append_checksum _

/-- A frame of `Encode` is the encoding of the CF instruction with its length and checksum (R71, R100). -/
theorem encodeFrame_eq_frameBytes (g d : Byte) (p : List Byte) :
    encodeFrame g d p =
      frameBytes (BitVec.ofNat 16 (p.length + Config.lenBias)) g d p (checksum (frameBody g d p)) := by
  simp [encodeFrame, frameBody, frameBytes]

/-- Any command frame's fields are decoded back, its length field and checksum byte as they stand. -/
theorem decodeFrame_frameBytes (len : Half) (g d : Byte) (p : List Byte) (cs : Byte) :
    decodeFrame (frameBytes len g d p cs) = .ok (.cf len g d p cs) := by
  have hd : le16 (lo8 Config.devId) (hi8 Config.devId) = Config.devId := le16_lo8_hi8 _
  cases p with
  | nil => simp [frameBytes, decodeFrame, hd, -lo8_devId, -hi8_devId]
  | cons x xs =>
    simp only [frameBytes, decodeFrame, List.cons_append, List.nil_append, hd, ne_eq, not_true_eq_false, if_false,
      le16_lo8_hi8]
    congr 2
    · rw [← List.cons_append]; exact List.dropLast_concat
    · simp

@[simp] theorem length_headerBytes (len : Half) : (headerBytes len).length = 5 := rfl

@[simp] theorem length_bytesOfNat (n w : Nat) : (bytesOfNat n w).length = n := by
  induction n generalizing w with
  | zero => rfl
  | succ n ih => simp [bytesOfNat, ih]

end Sys2Proof
end

