-- ==== Sys2Proof/Laws/HostSoftware.lean ====
section
/-! SUPPORT. What the host software's shared functions do. -/

namespace Sys2Proof.Machine

/-- Fragments received before other responses are taken off the reads left and added to the payloads received. -/
theorem readMove_data_append (k : ReplyKind) (qs : List (Half × List Byte)) (n : Nat) (acc : List (List Byte))
    (rs : List Response) :
    readMove k (n + qs.length) acc ((qs.map fun q => Response.data q.1 q.2) ++ rs) =
      readMove k n (acc ++ qs.map fun q => q.2) rs := by
  induction qs generalizing acc with
  | nil => simp
  | cons q qs ih => simpa [readMove, ← Nat.add_assoc] using ih (acc ++ [q.2])

/-- All a session can do going on: nothing; take the response it waits for; present its task's request; return its
task's result. -/
theorem advance_cases (σ : Session) (h : Hosted) :
    h.advance σ = h ∨
      (∃ r : Response, σ.waiting = true ∧ h.block.responses[σ.seen]? = some r ∧
        h.advance σ =
          { h with session := some { σ with got := σ.got ++ [r], waiting := false, seen := σ.seen + 1 } }) ∨
      ∃ t : Task, σ.task = some t ∧ σ.waiting = false ∧
        ((∃ e : Event, t.move σ.gaddr σ.daddr σ.got = .request e ∧
            h.advance σ =
              { h with
                session := some { σ with waiting := true }
                block := { h.block with sched := h.block.sched ++ [e] } }) ∨
          ∃ r : Except HostError HostValue, t.move σ.gaddr σ.daddr σ.got = .result r ∧
            h.advance σ =
              { h with session := some { σ with task := none, got := [] }, returned := h.returned ++ [r] }) := by
  unfold Hosted.advance
  split
  · exact .inl rfl
  · split
    · exact .inl rfl
    · exact .inr (.inl ⟨_, ‹_›, ‹_›, rfl⟩)
  · split
    · exact .inr (.inr ⟨_, ‹_›, ‹_›, .inl ⟨_, ‹_›, rfl⟩⟩)
    · exact .inr (.inr ⟨_, ‹_›, ‹_›, .inr ⟨_, ‹_›, rfl⟩⟩)

/-- What a task presents is an event of the host's. -/
theorem move_request_isHost {g d : Byte} {t : Task} {rs : List Response} {e : Event}
    (h : t.move g d rs = .request e) : e.isHost = true := by
  have hr : ∀ (k : ReplyKind) (n : Nat) (qs : List (List Byte)) (l : List Response),
      readMove k n qs l = .request e → e.isHost = true := by
    intro k n qs l
    fun_induction readMove k n qs l with
    | case1 => nofun
    | case2 => rintro ⟨⟩; rfl
    | case3 _ _ _ _ _ ih => exact ih
    | case4 => nofun
  unfold Task.move nextMove at h
  split at h
  · split at h
    · split at h
      · cases h; rfl
      · exact hr _ _ _ _ h
      · cases h
    · cases h
  · cases h; rfl
  · cases h
  · cases h

end Sys2Proof.Machine
end

