-- ==== Sys2Proof/Laws/Memory.lean ====
section
/-! SUPPORT. The buffers: read after write, whole strings, and the canonical form, which every memory operation keeps
and which both buffers have at reset. -/

namespace Sys2Proof.Machine

@[simp] theorem read_nil (a : Nat) : Memory.read [] a = none := rfl

theorem read_write_same (m : Memory) (a : Nat) (b : Byte) : Memory.read (Memory.write m a b) a = some b := by
  induction m with
  | nil => simp [Memory.write, Memory.read]
  | cons c m ih =>
    obtain ⟨k, v⟩ := c
    simp only [Memory.write]
    split
    · simp [Memory.read]
    · split
      · simp [Memory.read, *]
      · rename_i h1 h2
        have h3 : ¬k = a := fun h => h2 h.symm
        simp [Memory.read, ih, h3]

theorem read_write_other (m : Memory) (a a' : Nat) (b : Byte) (h : a' ≠ a) :
    Memory.read (Memory.write m a b) a' = Memory.read m a' := by
  induction m with
  | nil => simp [Memory.write, Memory.read, h.symm]
  | cons c m ih =>
    obtain ⟨k, v⟩ := c
    simp only [Memory.write]
    split
    · simp [Memory.read, h.symm]
    · split
      · rename_i h2
        subst h2
        simp [Memory.read, h.symm]
      · simp [Memory.read, ih]

/-- What `Memory.write` does to every address. -/
theorem read_write (m : Memory) (a a' : Nat) (b : Byte) :
    Memory.read (Memory.write m a b) a' = if a' = a then some b else Memory.read m a' := by
  split
  · rename_i h
    rw [h, read_write_same]
  · exact read_write_other m a a' b ‹_›

/-- What `Memory.writeAll` does to every address. -/
theorem read_writeAll (bs : List Byte) (m : Memory) (a a' : Nat) :
    Memory.read (Memory.writeAll m a bs) a' =
      if a ≤ a' ∧ a' < a + bs.length then bs[a' - a]? else Memory.read m a' := by
  induction bs generalizing m a with
  | nil =>
    simp only [Memory.writeAll, List.length_nil, Nat.add_zero]
    rw [if_neg (by omega)]
  | cons b bs ih =>
    simp only [Memory.writeAll, ih, read_write, List.length_cons]
    by_cases h : a' = a
    · subst h
      rw [if_neg (by omega), if_pos rfl, if_pos (by omega)]
      simp
    · by_cases h2 : a + 1 ≤ a' ∧ a' < a + 1 + bs.length
      · rw [if_pos h2, if_pos (by omega), show a' - a = (a' - (a + 1)) + 1 by omega]
        simp
      · rw [if_neg h2, if_neg h, if_neg (by omega)]

/-- `Memory.readAll` answers exactly the string that stands there. -/
theorem readAll_eq_some (m : Memory) (a n : Nat) (bs : List Byte) :
    Memory.readAll m a n = some bs ↔
      bs.length = n ∧ ∀ i, i < n → Memory.read m (a + i) = bs[i]? := by
  induction n generalizing a bs with
  | zero =>
    simp only [Memory.readAll, Option.some.injEq]
    constructor
    · rintro rfl
      simp
    · rintro ⟨h, -⟩
      exact (List.length_eq_zero_iff.mp h).symm
  | succ n ih =>
    simp only [Memory.readAll]
    constructor
    · intro h
      split at h
      · rename_i b bs' hb hbs
        obtain rfl := Option.some.inj h
        obtain ⟨hl, hr⟩ := (ih _ _).mp hbs
        refine ⟨by simp [hl], fun i hi => ?_⟩
        cases i with
        | zero => simpa using hb
        | succ i =>
          have := hr i (by omega)
          rw [show a + (i + 1) = a + 1 + i by omega, this]
          simp
      · cases h
    · rintro ⟨hl, hr⟩
      cases bs with
      | nil => simp at hl
      | cons b bs =>
        have h0 := hr 0 (by omega)
        have ht : Memory.readAll m (a + 1) n = some bs := by
          refine (ih _ _).mpr ⟨by simpa using hl, fun i hi => ?_⟩
          have := hr (i + 1) (by omega)
          rw [show a + 1 + i = a + (i + 1) by omega, this]
          simp
        simp only [Nat.add_zero, List.getElem?_cons_zero] at h0
        rw [h0, ht]

/-- A string that was written reads back. -/
theorem readAll_writeAll (m : Memory) (a : Nat) (bs : List Byte) :
    Memory.readAll (Memory.writeAll m a bs) a bs.length = some bs := by
  rw [readAll_eq_some]
  refine ⟨rfl, fun i hi => ?_⟩
  rw [read_writeAll, if_pos (by omega), show a + i - a = i by omega]

/-- One more byte after a string that stands from `a` on. -/
theorem readAll_write_next (m : Memory) (n : Nat) (bs : List Byte) (b : Byte)
    (h : Memory.readAll m 0 n = some bs) :
    Memory.readAll (Memory.write m n b) 0 (n + 1) = some (bs ++ [b]) := by
  rw [readAll_eq_some] at h ⊢
  obtain ⟨hl, hr⟩ := h
  refine ⟨by simp [hl], fun i hi => ?_⟩
  rw [read_write]
  split
  · rename_i h
    have : i = bs.length := by omega
    subst this
    simp
  · have := hr i (by omega)
    rw [this, List.getElem?_append_left (by omega)]

theorem wfFrom_write (size lo : Nat) (m : List Host.Cell) (a : Nat) (b : Byte)
    (h : Memory.wfFrom size lo m = true) (hlo : lo ≤ a) (ha : a < size) :
    Memory.wfFrom size lo (Memory.write m a b) = true := by
  induction m generalizing lo with
  | nil => simp [Memory.write, Memory.wfFrom, hlo, ha]
  | cons c m ih =>
    obtain ⟨k, v⟩ := c
    simp only [Memory.wfFrom, Bool.and_eq_true, decide_eq_true_eq] at h
    obtain ⟨⟨h1, h2⟩, h3⟩ := h
    simp only [Memory.write]
    split
    · simp only [Memory.wfFrom, Bool.and_eq_true, decide_eq_true_eq]
      exact ⟨⟨hlo, ha⟩, ⟨by omega, h2⟩, h3⟩
    · split
      · simp only [Memory.wfFrom, Bool.and_eq_true, decide_eq_true_eq]
        exact ⟨⟨h1, h2⟩, h3⟩
      · simp only [Memory.wfFrom, Bool.and_eq_true, decide_eq_true_eq]
        exact ⟨⟨h1, h2⟩, ih (k + 1) h3 (by omega)⟩

/-- Writing a byte inside the array keeps the canonical form. -/
theorem wf_write (size : Nat) (m : Memory) (a : Nat) (b : Byte) (h : Memory.wf size m = true) (ha : a < size) :
    Memory.wf size (Memory.write m a b) = true :=
  wfFrom_write size 0 m a b h (Nat.zero_le a) ha

/-- Writing a string inside the array keeps the canonical form. -/
theorem wf_writeAll (size : Nat) (bs : List Byte) (m : Memory) (a : Nat) (h : Memory.wf size m = true)
    (ha : a + bs.length ≤ size) : Memory.wf size (Memory.writeAll m a bs) = true := by
  induction bs generalizing m a with
  | nil => exact h
  | cons b bs ih =>
    simp only [List.length_cons] at ha
    exact ih _ _ (wf_write size m a b h (by omega)) (by omega)

/-- The empty memory is in canonical form. -/
@[simp] theorem wf_nil (size : Nat) : Memory.wf size [] = true := rfl

theorem reset_txbuf_wf : Memory.wf Config.txbufSize State.reset.txbuf = true := rfl

theorem reset_rxbuf_wf : Memory.wf Config.rxbufSize State.reset.rxbuf = true := rfl

end Sys2Proof.Machine
end

