-- ==== Sys2Proof/Laws/State.lean ====
section
/-! SUPPORT. One lemma per field per shared update of State, so that no later proof unfolds a record update. -/

namespace Sys2Proof.Machine

/-! ### raise -/

@[simp] theorem raise_gaddr (e : Error) (info : Half) (s : State) : (raise e info s).gaddr = s.gaddr := rfl
@[simp] theorem raise_daddr (e : Error) (info : Half) (s : State) : (raise e info s).daddr = s.daddr := rfl
@[simp] theorem raise_rxck (e : Error) (info : Half) (s : State) : (raise e info s).rxck = s.rxck := rfl
@[simp] theorem raise_phase (e : Error) (info : Half) (s : State) : (raise e info s).phase = .idle := rfl
@[simp] theorem raise_txlen (e : Error) (info : Half) (s : State) : (raise e info s).txlen = s.txlen := rfl
@[simp] theorem raise_txcnt (e : Error) (info : Half) (s : State) : (raise e info s).txcnt = s.txcnt := rfl
@[simp] theorem raise_rxcnt (e : Error) (info : Half) (s : State) : (raise e info s).rxcnt = s.rxcnt := rfl
@[simp] theorem raise_rxlen (e : Error) (info : Half) (s : State) : (raise e info s).rxlen = s.rxlen := rfl
@[simp] theorem raise_txsum (e : Error) (info : Half) (s : State) : (raise e info s).txsum = s.txsum := rfl
@[simp] theorem raise_rxsum (e : Error) (info : Half) (s : State) : (raise e info s).rxsum = s.rxsum := rfl
@[simp] theorem raise_rxcs (e : Error) (info : Half) (s : State) : (raise e info s).rxcs = s.rxcs := rfl
@[simp] theorem raise_rxhdr (e : Error) (info : Half) (s : State) : (raise e info s).rxhdr = s.rxhdr := rfl
@[simp] theorem raise_txbuf (e : Error) (info : Half) (s : State) : (raise e info s).txbuf = s.txbuf := rfl
@[simp] theorem raise_rxbuf (e : Error) (info : Half) (s : State) : (raise e info s).rxbuf = s.rxbuf := rfl
@[simp] theorem raise_errcode (e : Error) (info : Half) (s : State) : (raise e info s).errcode = e.code := rfl
@[simp] theorem raise_errinfo (e : Error) (info : Half) (s : State) : (raise e info s).errinfo = info := rfl
@[simp] theorem raise_desync (e : Error) (info : Half) (s : State) :
    (raise e info s).desync = (s.desync || e.desyncs) := rfl
@[simp] theorem raise_rcode (e : Error) (info : Half) (s : State) : (raise e info s).rcode = s.rcode := rfl
@[simp] theorem raise_rstat (e : Error) (info : Half) (s : State) : (raise e info s).rstat = s.rstat := rfl
@[simp] theorem raise_rlen (e : Error) (info : Half) (s : State) : (raise e info s).rlen = s.rlen := rfl
@[simp] theorem raise_sched (e : Error) (info : Half) (s : State) : (raise e info s).sched = s.sched := rfl
@[simp] theorem raise_txStream (e : Error) (info : Half) (s : State) : (raise e info s).txStream = s.txStream := rfl
@[simp] theorem raise_rxPulled (e : Error) (info : Half) (s : State) : (raise e info s).rxPulled = s.rxPulled := rfl
@[simp] theorem raise_responses (e : Error) (info : Half) (s : State) :
    (raise e info s).responses = s.responses ++ [.err e.code info] := rfl
@[simp] theorem raise_freeCount (e : Error) (info : Half) (s : State) : (raise e info s).freeCount = s.freeCount := rfl

/-! ### endOperation -/

@[simp] theorem endOperation_gaddr (r : Response) (s : State) : (endOperation r s).gaddr = s.gaddr := rfl
@[simp] theorem endOperation_daddr (r : Response) (s : State) : (endOperation r s).daddr = s.daddr := rfl
@[simp] theorem endOperation_rxck (r : Response) (s : State) : (endOperation r s).rxck = s.rxck := rfl
@[simp] theorem endOperation_phase (r : Response) (s : State) : (endOperation r s).phase = .idle := rfl
@[simp] theorem endOperation_txlen (r : Response) (s : State) : (endOperation r s).txlen = s.txlen := rfl
@[simp] theorem endOperation_txcnt (r : Response) (s : State) : (endOperation r s).txcnt = s.txcnt := rfl
@[simp] theorem endOperation_rxcnt (r : Response) (s : State) : (endOperation r s).rxcnt = s.rxcnt := rfl
@[simp] theorem endOperation_rxlen (r : Response) (s : State) : (endOperation r s).rxlen = s.rxlen := rfl
@[simp] theorem endOperation_txsum (r : Response) (s : State) : (endOperation r s).txsum = s.txsum := rfl
@[simp] theorem endOperation_rxsum (r : Response) (s : State) : (endOperation r s).rxsum = s.rxsum := rfl
@[simp] theorem endOperation_rxcs (r : Response) (s : State) : (endOperation r s).rxcs = s.rxcs := rfl
@[simp] theorem endOperation_rxhdr (r : Response) (s : State) : (endOperation r s).rxhdr = s.rxhdr := rfl
@[simp] theorem endOperation_txbuf (r : Response) (s : State) : (endOperation r s).txbuf = s.txbuf := rfl
@[simp] theorem endOperation_rxbuf (r : Response) (s : State) : (endOperation r s).rxbuf = s.rxbuf := rfl
@[simp] theorem endOperation_errcode (r : Response) (s : State) : (endOperation r s).errcode = s.errcode := rfl
@[simp] theorem endOperation_errinfo (r : Response) (s : State) : (endOperation r s).errinfo = s.errinfo := rfl
@[simp] theorem endOperation_desync (r : Response) (s : State) : (endOperation r s).desync = s.desync := rfl
@[simp] theorem endOperation_rcode (r : Response) (s : State) : (endOperation r s).rcode = s.rcode := rfl
@[simp] theorem endOperation_rstat (r : Response) (s : State) : (endOperation r s).rstat = s.rstat := rfl
@[simp] theorem endOperation_rlen (r : Response) (s : State) : (endOperation r s).rlen = s.rlen := rfl
@[simp] theorem endOperation_sched (r : Response) (s : State) : (endOperation r s).sched = s.sched := rfl
@[simp] theorem endOperation_txStream (r : Response) (s : State) : (endOperation r s).txStream = s.txStream := rfl
@[simp] theorem endOperation_rxPulled (r : Response) (s : State) : (endOperation r s).rxPulled = s.rxPulled := rfl
@[simp] theorem endOperation_responses (r : Response) (s : State) :
    (endOperation r s).responses = s.responses ++ [r] := rfl
@[simp] theorem endOperation_freeCount (r : Response) (s : State) : (endOperation r s).freeCount = s.freeCount := rfl

/-! ### clearError -/

@[simp] theorem clearError_gaddr (s : State) : (clearError s).gaddr = s.gaddr := rfl
@[simp] theorem clearError_daddr (s : State) : (clearError s).daddr = s.daddr := rfl
@[simp] theorem clearError_rxck (s : State) : (clearError s).rxck = s.rxck := rfl
@[simp] theorem clearError_phase (s : State) : (clearError s).phase = s.phase := rfl
@[simp] theorem clearError_txlen (s : State) : (clearError s).txlen = s.txlen := rfl
@[simp] theorem clearError_txcnt (s : State) : (clearError s).txcnt = s.txcnt := rfl
@[simp] theorem clearError_rxcnt (s : State) : (clearError s).rxcnt = s.rxcnt := rfl
@[simp] theorem clearError_rxlen (s : State) : (clearError s).rxlen = s.rxlen := rfl
@[simp] theorem clearError_txsum (s : State) : (clearError s).txsum = s.txsum := rfl
@[simp] theorem clearError_rxsum (s : State) : (clearError s).rxsum = s.rxsum := rfl
@[simp] theorem clearError_rxcs (s : State) : (clearError s).rxcs = s.rxcs := rfl
@[simp] theorem clearError_rxhdr (s : State) : (clearError s).rxhdr = s.rxhdr := rfl
@[simp] theorem clearError_txbuf (s : State) : (clearError s).txbuf = s.txbuf := rfl
@[simp] theorem clearError_rxbuf (s : State) : (clearError s).rxbuf = s.rxbuf := rfl
@[simp] theorem clearError_errcode (s : State) : (clearError s).errcode = 0 := rfl
@[simp] theorem clearError_errinfo (s : State) : (clearError s).errinfo = 0 := rfl
@[simp] theorem clearError_desync (s : State) : (clearError s).desync = s.desync := rfl
@[simp] theorem clearError_rcode (s : State) : (clearError s).rcode = s.rcode := rfl
@[simp] theorem clearError_rstat (s : State) : (clearError s).rstat = s.rstat := rfl
@[simp] theorem clearError_rlen (s : State) : (clearError s).rlen = s.rlen := rfl
@[simp] theorem clearError_sched (s : State) : (clearError s).sched = s.sched := rfl
@[simp] theorem clearError_txStream (s : State) : (clearError s).txStream = s.txStream := rfl
@[simp] theorem clearError_rxPulled (s : State) : (clearError s).rxPulled = s.rxPulled := rfl
@[simp] theorem clearError_responses (s : State) : (clearError s).responses = s.responses := rfl
@[simp] theorem clearError_freeCount (s : State) : (clearError s).freeCount = s.freeCount := rfl

/-! ### startFrame -/

@[simp] theorem startFrame_gaddr (p : List Byte) (s : State) : (startFrame p s).gaddr = s.gaddr := rfl
@[simp] theorem startFrame_daddr (p : List Byte) (s : State) : (startFrame p s).daddr = s.daddr := rfl
@[simp] theorem startFrame_rxck (p : List Byte) (s : State) : (startFrame p s).rxck = s.rxck := rfl
@[simp] theorem startFrame_phase (p : List Byte) (s : State) : (startFrame p s).phase = .tx := rfl
@[simp] theorem startFrame_txlen (p : List Byte) (s : State) :
    (startFrame p s).txlen = BitVec.ofNat 17 (p.length + 8) := rfl
@[simp] theorem startFrame_txcnt (p : List Byte) (s : State) : (startFrame p s).txcnt = 0 := rfl
@[simp] theorem startFrame_rxcnt (p : List Byte) (s : State) : (startFrame p s).rxcnt = s.rxcnt := rfl
@[simp] theorem startFrame_rxlen (p : List Byte) (s : State) : (startFrame p s).rxlen = s.rxlen := rfl
@[simp] theorem startFrame_txsum (p : List Byte) (s : State) : (startFrame p s).txsum = 0 := rfl
@[simp] theorem startFrame_rxsum (p : List Byte) (s : State) : (startFrame p s).rxsum = s.rxsum := rfl
@[simp] theorem startFrame_rxcs (p : List Byte) (s : State) : (startFrame p s).rxcs = s.rxcs := rfl
@[simp] theorem startFrame_rxhdr (p : List Byte) (s : State) : (startFrame p s).rxhdr = s.rxhdr := rfl
@[simp] theorem startFrame_txbuf (p : List Byte) (s : State) :
    (startFrame p s).txbuf = Memory.writeAll s.txbuf 0 (encodeFrame s.gaddr s.daddr p) := rfl
@[simp] theorem startFrame_rxbuf (p : List Byte) (s : State) : (startFrame p s).rxbuf = s.rxbuf := rfl
@[simp] theorem startFrame_errcode (p : List Byte) (s : State) : (startFrame p s).errcode = s.errcode := rfl
@[simp] theorem startFrame_errinfo (p : List Byte) (s : State) : (startFrame p s).errinfo = s.errinfo := rfl
@[simp] theorem startFrame_desync (p : List Byte) (s : State) : (startFrame p s).desync = s.desync := rfl
@[simp] theorem startFrame_rcode (p : List Byte) (s : State) : (startFrame p s).rcode = s.rcode := rfl
@[simp] theorem startFrame_rstat (p : List Byte) (s : State) : (startFrame p s).rstat = s.rstat := rfl
@[simp] theorem startFrame_rlen (p : List Byte) (s : State) : (startFrame p s).rlen = s.rlen := rfl
@[simp] theorem startFrame_sched (p : List Byte) (s : State) : (startFrame p s).sched = s.sched := rfl
@[simp] theorem startFrame_txStream (p : List Byte) (s : State) : (startFrame p s).txStream = s.txStream := rfl
@[simp] theorem startFrame_rxPulled (p : List Byte) (s : State) : (startFrame p s).rxPulled = s.rxPulled := rfl
@[simp] theorem startFrame_responses (p : List Byte) (s : State) : (startFrame p s).responses = s.responses := rfl
@[simp] theorem startFrame_freeCount (p : List Byte) (s : State) : (startFrame p s).freeCount = s.freeCount := rfl

/-! ### startReply -/

@[simp] theorem startReply_gaddr (s : State) : (startReply s).gaddr = s.gaddr := rfl
@[simp] theorem startReply_daddr (s : State) : (startReply s).daddr = s.daddr := rfl
@[simp] theorem startReply_rxck (s : State) : (startReply s).rxck = s.rxck := rfl
@[simp] theorem startReply_phase (s : State) : (startReply s).phase = .rxhdr := rfl
@[simp] theorem startReply_txlen (s : State) : (startReply s).txlen = s.txlen := rfl
@[simp] theorem startReply_txcnt (s : State) : (startReply s).txcnt = s.txcnt := rfl
@[simp] theorem startReply_rxcnt (s : State) : (startReply s).rxcnt = 0 := rfl
@[simp] theorem startReply_rxlen (s : State) : (startReply s).rxlen = s.rxlen := rfl
@[simp] theorem startReply_txsum (s : State) : (startReply s).txsum = s.txsum := rfl
@[simp] theorem startReply_rxsum (s : State) : (startReply s).rxsum = 0 := rfl
@[simp] theorem startReply_rxcs (s : State) : (startReply s).rxcs = s.rxcs := rfl
@[simp] theorem startReply_rxhdr (s : State) : (startReply s).rxhdr = s.rxhdr := rfl
@[simp] theorem startReply_txbuf (s : State) : (startReply s).txbuf = s.txbuf := rfl
@[simp] theorem startReply_rxbuf (s : State) : (startReply s).rxbuf = s.rxbuf := rfl
@[simp] theorem startReply_errcode (s : State) : (startReply s).errcode = s.errcode := rfl
@[simp] theorem startReply_errinfo (s : State) : (startReply s).errinfo = s.errinfo := rfl
@[simp] theorem startReply_desync (s : State) : (startReply s).desync = s.desync := rfl
@[simp] theorem startReply_rcode (s : State) : (startReply s).rcode = s.rcode := rfl
@[simp] theorem startReply_rstat (s : State) : (startReply s).rstat = s.rstat := rfl
@[simp] theorem startReply_rlen (s : State) : (startReply s).rlen = s.rlen := rfl
@[simp] theorem startReply_sched (s : State) : (startReply s).sched = s.sched := rfl
@[simp] theorem startReply_txStream (s : State) : (startReply s).txStream = s.txStream := rfl
@[simp] theorem startReply_rxPulled (s : State) : (startReply s).rxPulled = s.rxPulled := rfl
@[simp] theorem startReply_responses (s : State) : (startReply s).responses = s.responses := rfl
@[simp] theorem startReply_freeCount (s : State) : (startReply s).freeCount = s.freeCount := rfl

/-! ### pushByte -/

@[simp] theorem pushByte_gaddr (b : Byte) (s : State) : (pushByte b s).gaddr = s.gaddr := rfl
@[simp] theorem pushByte_daddr (b : Byte) (s : State) : (pushByte b s).daddr = s.daddr := rfl
@[simp] theorem pushByte_rxck (b : Byte) (s : State) : (pushByte b s).rxck = s.rxck := rfl
@[simp] theorem pushByte_phase (b : Byte) (s : State) : (pushByte b s).phase = s.phase := rfl
@[simp] theorem pushByte_txlen (b : Byte) (s : State) : (pushByte b s).txlen = s.txlen := rfl
@[simp] theorem pushByte_txcnt (b : Byte) (s : State) : (pushByte b s).txcnt = s.txcnt + 1 := rfl
@[simp] theorem pushByte_rxcnt (b : Byte) (s : State) : (pushByte b s).rxcnt = s.rxcnt := rfl
@[simp] theorem pushByte_rxlen (b : Byte) (s : State) : (pushByte b s).rxlen = s.rxlen := rfl
@[simp] theorem pushByte_txsum (b : Byte) (s : State) : (pushByte b s).txsum = s.txsum + b := rfl
@[simp] theorem pushByte_rxsum (b : Byte) (s : State) : (pushByte b s).rxsum = s.rxsum := rfl
@[simp] theorem pushByte_rxcs (b : Byte) (s : State) : (pushByte b s).rxcs = s.rxcs := rfl
@[simp] theorem pushByte_rxhdr (b : Byte) (s : State) : (pushByte b s).rxhdr = s.rxhdr := rfl
@[simp] theorem pushByte_txbuf (b : Byte) (s : State) : (pushByte b s).txbuf = s.txbuf := rfl
@[simp] theorem pushByte_rxbuf (b : Byte) (s : State) : (pushByte b s).rxbuf = s.rxbuf := rfl
@[simp] theorem pushByte_errcode (b : Byte) (s : State) : (pushByte b s).errcode = s.errcode := rfl
@[simp] theorem pushByte_errinfo (b : Byte) (s : State) : (pushByte b s).errinfo = s.errinfo := rfl
@[simp] theorem pushByte_desync (b : Byte) (s : State) : (pushByte b s).desync = s.desync := rfl
@[simp] theorem pushByte_rcode (b : Byte) (s : State) : (pushByte b s).rcode = s.rcode := rfl
@[simp] theorem pushByte_rstat (b : Byte) (s : State) : (pushByte b s).rstat = s.rstat := rfl
@[simp] theorem pushByte_rlen (b : Byte) (s : State) : (pushByte b s).rlen = s.rlen := rfl
@[simp] theorem pushByte_sched (b : Byte) (s : State) : (pushByte b s).sched = s.sched := rfl
@[simp] theorem pushByte_txStream (b : Byte) (s : State) : (pushByte b s).txStream = s.txStream ++ [b] := rfl
@[simp] theorem pushByte_rxPulled (b : Byte) (s : State) : (pushByte b s).rxPulled = s.rxPulled := rfl
@[simp] theorem pushByte_responses (b : Byte) (s : State) : (pushByte b s).responses = s.responses := rfl
@[simp] theorem pushByte_freeCount (b : Byte) (s : State) : (pushByte b s).freeCount = s.freeCount := rfl

/-! ### pullByte -/

@[simp] theorem pullByte_gaddr (b : Byte) (s : State) : (pullByte b s).gaddr = s.gaddr := rfl
@[simp] theorem pullByte_daddr (b : Byte) (s : State) : (pullByte b s).daddr = s.daddr := rfl
@[simp] theorem pullByte_rxck (b : Byte) (s : State) : (pullByte b s).rxck = s.rxck := rfl
@[simp] theorem pullByte_phase (b : Byte) (s : State) : (pullByte b s).phase = s.phase := rfl
@[simp] theorem pullByte_txlen (b : Byte) (s : State) : (pullByte b s).txlen = s.txlen := rfl
@[simp] theorem pullByte_txcnt (b : Byte) (s : State) : (pullByte b s).txcnt = s.txcnt := rfl
@[simp] theorem pullByte_rxcnt (b : Byte) (s : State) : (pullByte b s).rxcnt = s.rxcnt + 1 := rfl
@[simp] theorem pullByte_rxlen (b : Byte) (s : State) : (pullByte b s).rxlen = s.rxlen := rfl
@[simp] theorem pullByte_txsum (b : Byte) (s : State) : (pullByte b s).txsum = s.txsum := rfl
@[simp] theorem pullByte_rxsum (b : Byte) (s : State) : (pullByte b s).rxsum = s.rxsum + b := rfl
@[simp] theorem pullByte_rxcs (b : Byte) (s : State) : (pullByte b s).rxcs = s.rxcs := rfl
@[simp] theorem pullByte_rxhdr (b : Byte) (s : State) : (pullByte b s).rxhdr = s.rxhdr := rfl
@[simp] theorem pullByte_txbuf (b : Byte) (s : State) : (pullByte b s).txbuf = s.txbuf := rfl
@[simp] theorem pullByte_rxbuf (b : Byte) (s : State) : (pullByte b s).rxbuf = s.rxbuf := rfl
@[simp] theorem pullByte_errcode (b : Byte) (s : State) : (pullByte b s).errcode = s.errcode := rfl
@[simp] theorem pullByte_errinfo (b : Byte) (s : State) : (pullByte b s).errinfo = s.errinfo := rfl
@[simp] theorem pullByte_desync (b : Byte) (s : State) : (pullByte b s).desync = s.desync := rfl
@[simp] theorem pullByte_rcode (b : Byte) (s : State) : (pullByte b s).rcode = s.rcode := rfl
@[simp] theorem pullByte_rstat (b : Byte) (s : State) : (pullByte b s).rstat = s.rstat := rfl
@[simp] theorem pullByte_rlen (b : Byte) (s : State) : (pullByte b s).rlen = s.rlen := rfl
@[simp] theorem pullByte_sched (b : Byte) (s : State) : (pullByte b s).sched = s.sched := rfl
@[simp] theorem pullByte_txStream (b : Byte) (s : State) : (pullByte b s).txStream = s.txStream := rfl
@[simp] theorem pullByte_rxPulled (b : Byte) (s : State) : (pullByte b s).rxPulled = s.rxPulled ++ [b] := rfl
@[simp] theorem pullByte_responses (b : Byte) (s : State) : (pullByte b s).responses = s.responses := rfl
@[simp] theorem pullByte_freeCount (b : Byte) (s : State) : (pullByte b s).freeCount = s.freeCount := rfl

/-! ### acceptHeader -/

@[simp] theorem acceptHeader_gaddr (len : Half) (s : State) : (acceptHeader len s).gaddr = s.gaddr := rfl
@[simp] theorem acceptHeader_daddr (len : Half) (s : State) : (acceptHeader len s).daddr = s.daddr := rfl
@[simp] theorem acceptHeader_rxck (len : Half) (s : State) : (acceptHeader len s).rxck = s.rxck := rfl
@[simp] theorem acceptHeader_phase (len : Half) (s : State) : (acceptHeader len s).phase = .rxbody := rfl
@[simp] theorem acceptHeader_txlen (len : Half) (s : State) : (acceptHeader len s).txlen = s.txlen := rfl
@[simp] theorem acceptHeader_txcnt (len : Half) (s : State) : (acceptHeader len s).txcnt = s.txcnt := rfl
@[simp] theorem acceptHeader_rxcnt (len : Half) (s : State) : (acceptHeader len s).rxcnt = s.rxcnt := rfl
@[simp] theorem acceptHeader_rxlen (len : Half) (s : State) : (acceptHeader len s).rxlen = len := rfl
@[simp] theorem acceptHeader_txsum (len : Half) (s : State) : (acceptHeader len s).txsum = s.txsum := rfl
@[simp] theorem acceptHeader_rxsum (len : Half) (s : State) : (acceptHeader len s).rxsum = s.rxsum := rfl
@[simp] theorem acceptHeader_rxcs (len : Half) (s : State) : (acceptHeader len s).rxcs = s.rxcs := rfl
@[simp] theorem acceptHeader_rxhdr (len : Half) (s : State) : (acceptHeader len s).rxhdr = s.rxhdr := rfl
@[simp] theorem acceptHeader_txbuf (len : Half) (s : State) : (acceptHeader len s).txbuf = s.txbuf := rfl
@[simp] theorem acceptHeader_rxbuf (len : Half) (s : State) : (acceptHeader len s).rxbuf = s.rxbuf := rfl
@[simp] theorem acceptHeader_errcode (len : Half) (s : State) : (acceptHeader len s).errcode = s.errcode := rfl
@[simp] theorem acceptHeader_errinfo (len : Half) (s : State) : (acceptHeader len s).errinfo = s.errinfo := rfl
@[simp] theorem acceptHeader_desync (len : Half) (s : State) : (acceptHeader len s).desync = s.desync := rfl
@[simp] theorem acceptHeader_rcode (len : Half) (s : State) : (acceptHeader len s).rcode = s.rcode := rfl
@[simp] theorem acceptHeader_rstat (len : Half) (s : State) : (acceptHeader len s).rstat = s.rstat := rfl
@[simp] theorem acceptHeader_rlen (len : Half) (s : State) : (acceptHeader len s).rlen = len := rfl
@[simp] theorem acceptHeader_sched (len : Half) (s : State) : (acceptHeader len s).sched = s.sched := rfl
@[simp] theorem acceptHeader_txStream (len : Half) (s : State) : (acceptHeader len s).txStream = s.txStream := rfl
@[simp] theorem acceptHeader_rxPulled (len : Half) (s : State) : (acceptHeader len s).rxPulled = s.rxPulled := rfl
@[simp] theorem acceptHeader_responses (len : Half) (s : State) : (acceptHeader len s).responses = s.responses := rfl
@[simp] theorem acceptHeader_freeCount (len : Half) (s : State) : (acceptHeader len s).freeCount = s.freeCount := rfl

/-! ### noteCode -/

@[simp] theorem noteCode_gaddr (code : Half) (s : State) : (noteCode code s).gaddr = s.gaddr := rfl
@[simp] theorem noteCode_daddr (code : Half) (s : State) : (noteCode code s).daddr = s.daddr := rfl
@[simp] theorem noteCode_rxck (code : Half) (s : State) : (noteCode code s).rxck = s.rxck := rfl
@[simp] theorem noteCode_phase (code : Half) (s : State) : (noteCode code s).phase = s.phase := rfl
@[simp] theorem noteCode_txlen (code : Half) (s : State) : (noteCode code s).txlen = s.txlen := rfl
@[simp] theorem noteCode_txcnt (code : Half) (s : State) : (noteCode code s).txcnt = s.txcnt := rfl
@[simp] theorem noteCode_rxcnt (code : Half) (s : State) : (noteCode code s).rxcnt = s.rxcnt := rfl
@[simp] theorem noteCode_rxlen (code : Half) (s : State) : (noteCode code s).rxlen = s.rxlen := rfl
@[simp] theorem noteCode_txsum (code : Half) (s : State) : (noteCode code s).txsum = s.txsum := rfl
@[simp] theorem noteCode_rxsum (code : Half) (s : State) : (noteCode code s).rxsum = s.rxsum := rfl
@[simp] theorem noteCode_rxcs (code : Half) (s : State) : (noteCode code s).rxcs = s.rxcs := rfl
@[simp] theorem noteCode_rxhdr (code : Half) (s : State) : (noteCode code s).rxhdr = s.rxhdr := rfl
@[simp] theorem noteCode_txbuf (code : Half) (s : State) : (noteCode code s).txbuf = s.txbuf := rfl
@[simp] theorem noteCode_rxbuf (code : Half) (s : State) : (noteCode code s).rxbuf = s.rxbuf := rfl
@[simp] theorem noteCode_errcode (code : Half) (s : State) : (noteCode code s).errcode = s.errcode := rfl
@[simp] theorem noteCode_errinfo (code : Half) (s : State) : (noteCode code s).errinfo = s.errinfo := rfl
@[simp] theorem noteCode_desync (code : Half) (s : State) : (noteCode code s).desync = s.desync := rfl
@[simp] theorem noteCode_rcode (code : Half) (s : State) : (noteCode code s).rcode = code := rfl
@[simp] theorem noteCode_rstat (code : Half) (s : State) : (noteCode code s).rstat = s.rstat := rfl
@[simp] theorem noteCode_rlen (code : Half) (s : State) : (noteCode code s).rlen = s.rlen := rfl
@[simp] theorem noteCode_sched (code : Half) (s : State) : (noteCode code s).sched = s.sched := rfl
@[simp] theorem noteCode_txStream (code : Half) (s : State) : (noteCode code s).txStream = s.txStream := rfl
@[simp] theorem noteCode_rxPulled (code : Half) (s : State) : (noteCode code s).rxPulled = s.rxPulled := rfl
@[simp] theorem noteCode_responses (code : Half) (s : State) : (noteCode code s).responses = s.responses := rfl
@[simp] theorem noteCode_freeCount (code : Half) (s : State) : (noteCode code s).freeCount = s.freeCount := rfl

/-! ### noteFeedback -/

@[simp] theorem noteFeedback_gaddr (st : Byte) (s : State) : (noteFeedback st s).gaddr = s.gaddr := rfl
@[simp] theorem noteFeedback_daddr (st : Byte) (s : State) : (noteFeedback st s).daddr = s.daddr := rfl
@[simp] theorem noteFeedback_rxck (st : Byte) (s : State) : (noteFeedback st s).rxck = s.rxck := rfl
@[simp] theorem noteFeedback_phase (st : Byte) (s : State) : (noteFeedback st s).phase = s.phase := rfl
@[simp] theorem noteFeedback_txlen (st : Byte) (s : State) : (noteFeedback st s).txlen = s.txlen := rfl
@[simp] theorem noteFeedback_txcnt (st : Byte) (s : State) : (noteFeedback st s).txcnt = s.txcnt := rfl
@[simp] theorem noteFeedback_rxcnt (st : Byte) (s : State) : (noteFeedback st s).rxcnt = s.rxcnt := rfl
@[simp] theorem noteFeedback_rxlen (st : Byte) (s : State) : (noteFeedback st s).rxlen = s.rxlen := rfl
@[simp] theorem noteFeedback_txsum (st : Byte) (s : State) : (noteFeedback st s).txsum = s.txsum := rfl
@[simp] theorem noteFeedback_rxsum (st : Byte) (s : State) : (noteFeedback st s).rxsum = s.rxsum := rfl
@[simp] theorem noteFeedback_rxcs (st : Byte) (s : State) : (noteFeedback st s).rxcs = s.rxcs := rfl
@[simp] theorem noteFeedback_rxhdr (st : Byte) (s : State) : (noteFeedback st s).rxhdr = s.rxhdr := rfl
@[simp] theorem noteFeedback_txbuf (st : Byte) (s : State) : (noteFeedback st s).txbuf = s.txbuf := rfl
@[simp] theorem noteFeedback_rxbuf (st : Byte) (s : State) : (noteFeedback st s).rxbuf = s.rxbuf := rfl
@[simp] theorem noteFeedback_errcode (st : Byte) (s : State) : (noteFeedback st s).errcode = s.errcode := rfl
@[simp] theorem noteFeedback_errinfo (st : Byte) (s : State) : (noteFeedback st s).errinfo = s.errinfo := rfl
@[simp] theorem noteFeedback_desync (st : Byte) (s : State) : (noteFeedback st s).desync = s.desync := rfl
@[simp] theorem noteFeedback_rcode (st : Byte) (s : State) : (noteFeedback st s).rcode = Config.feedbackCode := rfl
@[simp] theorem noteFeedback_rstat (st : Byte) (s : State) : (noteFeedback st s).rstat = st := rfl
@[simp] theorem noteFeedback_rlen (st : Byte) (s : State) : (noteFeedback st s).rlen = s.rlen := rfl
@[simp] theorem noteFeedback_sched (st : Byte) (s : State) : (noteFeedback st s).sched = s.sched := rfl
@[simp] theorem noteFeedback_txStream (st : Byte) (s : State) : (noteFeedback st s).txStream = s.txStream := rfl
@[simp] theorem noteFeedback_rxPulled (st : Byte) (s : State) : (noteFeedback st s).rxPulled = s.rxPulled := rfl
@[simp] theorem noteFeedback_responses (st : Byte) (s : State) : (noteFeedback st s).responses = s.responses := rfl
@[simp] theorem noteFeedback_freeCount (st : Byte) (s : State) : (noteFeedback st s).freeCount = s.freeCount := rfl

/-! ### resetBlock -/

@[simp] theorem resetBlock_gaddr (g d : Byte) (k : Bool) (s : State) : (resetBlock g d k s).gaddr = g := rfl
@[simp] theorem resetBlock_daddr (g d : Byte) (k : Bool) (s : State) : (resetBlock g d k s).daddr = d := rfl
@[simp] theorem resetBlock_rxck (g d : Byte) (k : Bool) (s : State) : (resetBlock g d k s).rxck = k := rfl
@[simp] theorem resetBlock_phase (g d : Byte) (k : Bool) (s : State) : (resetBlock g d k s).phase = .idle := rfl
@[simp] theorem resetBlock_txlen (g d : Byte) (k : Bool) (s : State) : (resetBlock g d k s).txlen = 0 := rfl
@[simp] theorem resetBlock_txcnt (g d : Byte) (k : Bool) (s : State) : (resetBlock g d k s).txcnt = 0 := rfl
@[simp] theorem resetBlock_rxcnt (g d : Byte) (k : Bool) (s : State) : (resetBlock g d k s).rxcnt = 0 := rfl
@[simp] theorem resetBlock_rxlen (g d : Byte) (k : Bool) (s : State) : (resetBlock g d k s).rxlen = 0 := rfl
@[simp] theorem resetBlock_txsum (g d : Byte) (k : Bool) (s : State) : (resetBlock g d k s).txsum = 0 := rfl
@[simp] theorem resetBlock_rxsum (g d : Byte) (k : Bool) (s : State) : (resetBlock g d k s).rxsum = 0 := rfl
@[simp] theorem resetBlock_rxcs (g d : Byte) (k : Bool) (s : State) : (resetBlock g d k s).rxcs = 0 := rfl
@[simp] theorem resetBlock_rxhdr (g d : Byte) (k : Bool) (s : State) : (resetBlock g d k s).rxhdr = freshHeader s := rfl
@[simp] theorem resetBlock_txbuf (g d : Byte) (k : Bool) (s : State) : (resetBlock g d k s).txbuf = [] := rfl
@[simp] theorem resetBlock_rxbuf (g d : Byte) (k : Bool) (s : State) : (resetBlock g d k s).rxbuf = [] := rfl
@[simp] theorem resetBlock_errcode (g d : Byte) (k : Bool) (s : State) : (resetBlock g d k s).errcode = 0 := rfl
@[simp] theorem resetBlock_errinfo (g d : Byte) (k : Bool) (s : State) : (resetBlock g d k s).errinfo = 0 := rfl
@[simp] theorem resetBlock_desync (g d : Byte) (k : Bool) (s : State) : (resetBlock g d k s).desync = false := rfl
@[simp] theorem resetBlock_rcode (g d : Byte) (k : Bool) (s : State) : (resetBlock g d k s).rcode = 0 := rfl
@[simp] theorem resetBlock_rstat (g d : Byte) (k : Bool) (s : State) : (resetBlock g d k s).rstat = 0 := rfl
@[simp] theorem resetBlock_rlen (g d : Byte) (k : Bool) (s : State) : (resetBlock g d k s).rlen = 0 := rfl
@[simp] theorem resetBlock_sched (g d : Byte) (k : Bool) (s : State) : (resetBlock g d k s).sched = s.sched := rfl
@[simp] theorem resetBlock_txStream (g d : Byte) (k : Bool) (s : State) :
    (resetBlock g d k s).txStream = s.txStream := rfl
@[simp] theorem resetBlock_rxPulled (g d : Byte) (k : Bool) (s : State) :
    (resetBlock g d k s).rxPulled = s.rxPulled := rfl
@[simp] theorem resetBlock_responses (g d : Byte) (k : Bool) (s : State) :
    (resetBlock g d k s).responses = s.responses := rfl
@[simp] theorem resetBlock_freeCount (g d : Byte) (k : Bool) (s : State) :
    (resetBlock g d k s).freeCount = s.freeCount + 5 := rfl

/-! ### storeHeader -/

@[simp] theorem storeHeader_gaddr (h : RxHdr) (s : State) : (storeHeader h s).gaddr = s.gaddr := rfl
@[simp] theorem storeHeader_daddr (h : RxHdr) (s : State) : (storeHeader h s).daddr = s.daddr := rfl
@[simp] theorem storeHeader_rxck (h : RxHdr) (s : State) : (storeHeader h s).rxck = s.rxck := rfl
@[simp] theorem storeHeader_phase (h : RxHdr) (s : State) : (storeHeader h s).phase = s.phase := rfl
@[simp] theorem storeHeader_txlen (h : RxHdr) (s : State) : (storeHeader h s).txlen = s.txlen := rfl
@[simp] theorem storeHeader_txcnt (h : RxHdr) (s : State) : (storeHeader h s).txcnt = s.txcnt := rfl
@[simp] theorem storeHeader_rxcnt (h : RxHdr) (s : State) : (storeHeader h s).rxcnt = s.rxcnt := rfl
@[simp] theorem storeHeader_rxlen (h : RxHdr) (s : State) : (storeHeader h s).rxlen = s.rxlen := rfl
@[simp] theorem storeHeader_txsum (h : RxHdr) (s : State) : (storeHeader h s).txsum = s.txsum := rfl
@[simp] theorem storeHeader_rxsum (h : RxHdr) (s : State) : (storeHeader h s).rxsum = s.rxsum := rfl
@[simp] theorem storeHeader_rxcs (h : RxHdr) (s : State) : (storeHeader h s).rxcs = s.rxcs := rfl
@[simp] theorem storeHeader_rxhdr (h : RxHdr) (s : State) : (storeHeader h s).rxhdr = h := rfl
@[simp] theorem storeHeader_txbuf (h : RxHdr) (s : State) : (storeHeader h s).txbuf = s.txbuf := rfl
@[simp] theorem storeHeader_rxbuf (h : RxHdr) (s : State) : (storeHeader h s).rxbuf = s.rxbuf := rfl
@[simp] theorem storeHeader_errcode (h : RxHdr) (s : State) : (storeHeader h s).errcode = s.errcode := rfl
@[simp] theorem storeHeader_errinfo (h : RxHdr) (s : State) : (storeHeader h s).errinfo = s.errinfo := rfl
@[simp] theorem storeHeader_desync (h : RxHdr) (s : State) : (storeHeader h s).desync = s.desync := rfl
@[simp] theorem storeHeader_rcode (h : RxHdr) (s : State) : (storeHeader h s).rcode = s.rcode := rfl
@[simp] theorem storeHeader_rstat (h : RxHdr) (s : State) : (storeHeader h s).rstat = s.rstat := rfl
@[simp] theorem storeHeader_rlen (h : RxHdr) (s : State) : (storeHeader h s).rlen = s.rlen := rfl
@[simp] theorem storeHeader_sched (h : RxHdr) (s : State) : (storeHeader h s).sched = s.sched := rfl
@[simp] theorem storeHeader_txStream (h : RxHdr) (s : State) : (storeHeader h s).txStream = s.txStream := rfl
@[simp] theorem storeHeader_rxPulled (h : RxHdr) (s : State) : (storeHeader h s).rxPulled = s.rxPulled := rfl
@[simp] theorem storeHeader_responses (h : RxHdr) (s : State) : (storeHeader h s).responses = s.responses := rfl
@[simp] theorem storeHeader_freeCount (h : RxHdr) (s : State) : (storeHeader h s).freeCount = s.freeCount := rfl

/-! ### storeRegion -/

@[simp] theorem storeRegion_gaddr (a : Nat) (b : Byte) (s : State) : (storeRegion a b s).gaddr = s.gaddr := rfl
@[simp] theorem storeRegion_daddr (a : Nat) (b : Byte) (s : State) : (storeRegion a b s).daddr = s.daddr := rfl
@[simp] theorem storeRegion_rxck (a : Nat) (b : Byte) (s : State) : (storeRegion a b s).rxck = s.rxck := rfl
@[simp] theorem storeRegion_phase (a : Nat) (b : Byte) (s : State) : (storeRegion a b s).phase = s.phase := rfl
@[simp] theorem storeRegion_txlen (a : Nat) (b : Byte) (s : State) : (storeRegion a b s).txlen = s.txlen := rfl
@[simp] theorem storeRegion_txcnt (a : Nat) (b : Byte) (s : State) : (storeRegion a b s).txcnt = s.txcnt := rfl
@[simp] theorem storeRegion_rxcnt (a : Nat) (b : Byte) (s : State) : (storeRegion a b s).rxcnt = s.rxcnt := rfl
@[simp] theorem storeRegion_rxlen (a : Nat) (b : Byte) (s : State) : (storeRegion a b s).rxlen = s.rxlen := rfl
@[simp] theorem storeRegion_txsum (a : Nat) (b : Byte) (s : State) : (storeRegion a b s).txsum = s.txsum := rfl
@[simp] theorem storeRegion_rxsum (a : Nat) (b : Byte) (s : State) : (storeRegion a b s).rxsum = s.rxsum := rfl
@[simp] theorem storeRegion_rxcs (a : Nat) (b : Byte) (s : State) : (storeRegion a b s).rxcs = s.rxcs := rfl
@[simp] theorem storeRegion_rxhdr (a : Nat) (b : Byte) (s : State) : (storeRegion a b s).rxhdr = s.rxhdr := rfl
@[simp] theorem storeRegion_txbuf (a : Nat) (b : Byte) (s : State) : (storeRegion a b s).txbuf = s.txbuf := rfl
@[simp] theorem storeRegion_rxbuf (a : Nat) (b : Byte) (s : State) :
    (storeRegion a b s).rxbuf = Memory.write s.rxbuf a b := rfl
@[simp] theorem storeRegion_errcode (a : Nat) (b : Byte) (s : State) : (storeRegion a b s).errcode = s.errcode := rfl
@[simp] theorem storeRegion_errinfo (a : Nat) (b : Byte) (s : State) : (storeRegion a b s).errinfo = s.errinfo := rfl
@[simp] theorem storeRegion_desync (a : Nat) (b : Byte) (s : State) : (storeRegion a b s).desync = s.desync := rfl
@[simp] theorem storeRegion_rcode (a : Nat) (b : Byte) (s : State) : (storeRegion a b s).rcode = s.rcode := rfl
@[simp] theorem storeRegion_rstat (a : Nat) (b : Byte) (s : State) : (storeRegion a b s).rstat = s.rstat := rfl
@[simp] theorem storeRegion_rlen (a : Nat) (b : Byte) (s : State) : (storeRegion a b s).rlen = s.rlen := rfl
@[simp] theorem storeRegion_sched (a : Nat) (b : Byte) (s : State) : (storeRegion a b s).sched = s.sched := rfl
@[simp] theorem storeRegion_txStream (a : Nat) (b : Byte) (s : State) : (storeRegion a b s).txStream = s.txStream := rfl
@[simp] theorem storeRegion_rxPulled (a : Nat) (b : Byte) (s : State) : (storeRegion a b s).rxPulled = s.rxPulled := rfl
@[simp] theorem storeRegion_responses (a : Nat) (b : Byte) (s : State) :
    (storeRegion a b s).responses = s.responses := rfl
@[simp] theorem storeRegion_freeCount (a : Nat) (b : Byte) (s : State) :
    (storeRegion a b s).freeCount = s.freeCount := rfl

/-! ### storeChecksum -/

@[simp] theorem storeChecksum_gaddr (b : Byte) (s : State) : (storeChecksum b s).gaddr = s.gaddr := rfl
@[simp] theorem storeChecksum_daddr (b : Byte) (s : State) : (storeChecksum b s).daddr = s.daddr := rfl
@[simp] theorem storeChecksum_rxck (b : Byte) (s : State) : (storeChecksum b s).rxck = s.rxck := rfl
@[simp] theorem storeChecksum_phase (b : Byte) (s : State) : (storeChecksum b s).phase = s.phase := rfl
@[simp] theorem storeChecksum_txlen (b : Byte) (s : State) : (storeChecksum b s).txlen = s.txlen := rfl
@[simp] theorem storeChecksum_txcnt (b : Byte) (s : State) : (storeChecksum b s).txcnt = s.txcnt := rfl
@[simp] theorem storeChecksum_rxcnt (b : Byte) (s : State) : (storeChecksum b s).rxcnt = s.rxcnt := rfl
@[simp] theorem storeChecksum_rxlen (b : Byte) (s : State) : (storeChecksum b s).rxlen = s.rxlen := rfl
@[simp] theorem storeChecksum_txsum (b : Byte) (s : State) : (storeChecksum b s).txsum = s.txsum := rfl
@[simp] theorem storeChecksum_rxsum (b : Byte) (s : State) : (storeChecksum b s).rxsum = s.rxsum := rfl
@[simp] theorem storeChecksum_rxcs (b : Byte) (s : State) : (storeChecksum b s).rxcs = b := rfl
@[simp] theorem storeChecksum_rxhdr (b : Byte) (s : State) : (storeChecksum b s).rxhdr = s.rxhdr := rfl
@[simp] theorem storeChecksum_txbuf (b : Byte) (s : State) : (storeChecksum b s).txbuf = s.txbuf := rfl
@[simp] theorem storeChecksum_rxbuf (b : Byte) (s : State) : (storeChecksum b s).rxbuf = s.rxbuf := rfl
@[simp] theorem storeChecksum_errcode (b : Byte) (s : State) : (storeChecksum b s).errcode = s.errcode := rfl
@[simp] theorem storeChecksum_errinfo (b : Byte) (s : State) : (storeChecksum b s).errinfo = s.errinfo := rfl
@[simp] theorem storeChecksum_desync (b : Byte) (s : State) : (storeChecksum b s).desync = s.desync := rfl
@[simp] theorem storeChecksum_rcode (b : Byte) (s : State) : (storeChecksum b s).rcode = s.rcode := rfl
@[simp] theorem storeChecksum_rstat (b : Byte) (s : State) : (storeChecksum b s).rstat = s.rstat := rfl
@[simp] theorem storeChecksum_rlen (b : Byte) (s : State) : (storeChecksum b s).rlen = s.rlen := rfl
@[simp] theorem storeChecksum_sched (b : Byte) (s : State) : (storeChecksum b s).sched = s.sched := rfl
@[simp] theorem storeChecksum_txStream (b : Byte) (s : State) : (storeChecksum b s).txStream = s.txStream := rfl
@[simp] theorem storeChecksum_rxPulled (b : Byte) (s : State) : (storeChecksum b s).rxPulled = s.rxPulled := rfl
@[simp] theorem storeChecksum_responses (b : Byte) (s : State) : (storeChecksum b s).responses = s.responses := rfl
@[simp] theorem storeChecksum_freeCount (b : Byte) (s : State) : (storeChecksum b s).freeCount = s.freeCount := rfl

end Sys2Proof.Machine
end

