-- ==== Sys2Proof/Laws/Ops.lean ====
section
/-! SUPPORT. For each shared operation, once, everything it can do. -/

namespace Sys2Proof.Machine

theorem replyExpected_iff (g d : Byte) : replyExpected g d = true ↔ d = Config.direct := by
  simp [replyExpected]

theorem acceptSend_next {p : List Byte} {s t : State} (h : acceptSend p s = .next t) :
    s.phase = .idle ∧
      ((Config.txMax < p.length ∧ t = raise .argumentError 0 (clearError s)) ∨
        (p.length ≤ Config.txMax ∧ t = startFrame p (clearError s))) := by
  unfold acceptSend at h
  split at h
  · rename_i hp
    refine ⟨hp, ?_⟩
    split at h
    · exact .inl ⟨‹_›, (Host.Outcome.next.inj h).symm⟩
    · exact .inr ⟨by omega, (Host.Outcome.next.inj h).symm⟩
  · cases h

theorem acceptRecv_next {s t : State} (h : acceptRecv s = .next t) :
    s.phase = .idle ∧
      ((s.daddr = Config.direct ∧ t = startReply (clearError s)) ∨
        (s.daddr ≠ Config.direct ∧ t = raise .noReply (s.daddr.setWidth 16) (clearError s))) := by
  unfold acceptRecv at h
  split at h
  · rename_i hp
    refine ⟨hp, ?_⟩
    split at h
    · rename_i hr
      exact .inl ⟨(replyExpected_iff _ _).mp hr, (Host.Outcome.next.inj h).symm⟩
    · rename_i hr
      exact .inr ⟨fun hd => hr ((replyExpected_iff _ _).mpr hd), (Host.Outcome.next.inj h).symm⟩
  · cases h

theorem transmit_next {f : List Byte} {s t : State} (h : transmit f s = .next t) :
    s.phase = .tx ∧ ∃ b, f[s.txcnt.toNat]? = some b ∧
      ((s.txcnt + 1 = s.txlen ∧ t = endOperation .sent (pushByte b s)) ∨
        (s.txcnt + 1 ≠ s.txlen ∧ t = pushByte b s)) := by
  unfold transmit at h
  split at h
  · rename_i hp
    refine ⟨hp, ?_⟩
    split at h
    · cases h
    · rename_i b hb
      refine ⟨b, hb, ?_⟩
      have h := Host.Outcome.next.inj h
      by_cases hl : s.txcnt + 1 = s.txlen
      · exact .inl ⟨hl, h.symm.trans (if_pos hl)⟩
      · exact .inr ⟨hl, h.symm.trans (if_neg hl)⟩
  · cases h

theorem replyComplete_iff (s : State) :
    replyComplete s = true ↔ s.phase = .rxbody ∧ s.rxcnt.toNat = s.rxlen.toNat + 6 := by
  simp [replyComplete]

theorem endReply_next {act : State → State} {s t : State} (h : endReply act s = .next t) :
    s.phase = .rxbody ∧ s.rxcnt.toNat = s.rxlen.toNat + 6 ∧
      ((s.rxck = true ∧ s.rxsum ≠ 0 ∧ t = raise .checksumMismatch (s.rxsum.setWidth 16) s) ∨
        ((s.rxck = false ∨ s.rxsum = 0) ∧ t = act s)) := by
  unfold endReply at h
  split at h
  · rename_i hc
    obtain ⟨hp, hn⟩ := (replyComplete_iff s).mp hc
    refine ⟨hp, hn, ?_⟩
    have h := Host.Outcome.next.inj h
    split at h
    · rename_i hk
      simp only [Bool.and_eq_true, bne_iff_ne, ne_eq] at hk
      exact .inl ⟨hk.1, hk.2, h.symm⟩
    · rename_i hk
      simp only [Bool.and_eq_true, bne_iff_ne, ne_eq, not_and, not_not] at hk
      refine .inr ⟨?_, h.symm⟩
      cases hr : s.rxck with
      | false => exact .inl rfl
      | true => exact .inr (hk hr)
  · cases h

/-- `endReply` at the end of a reply that the validator does not stop. -/
theorem endReply_pass {act : State → State} {s : State} (hp : s.phase = .rxbody)
    (hn : s.rxcnt.toNat = s.rxlen.toNat + 6) (hk : s.rxck = false ∨ s.rxsum = 0) :
    endReply act s = .next (act s) := by
  have hc := (replyComplete_iff s).mpr ⟨hp, hn⟩
  have hf : (s.rxck && s.rxsum != 0) = false := by
    rcases hk with hk | hk <;> simp [hk]
  rw [endReply, if_pos hc, hf, if_neg Bool.false_ne_true]

/-- `endReply` where the validator finds a residue. -/
theorem endReply_mismatch {act : State → State} {s : State} (hp : s.phase = .rxbody)
    (hn : s.rxcnt.toNat = s.rxlen.toNat + 6) (hk : s.rxck = true) (hs : s.rxsum ≠ 0) :
    endReply act s = .next (raise .checksumMismatch (s.rxsum.setWidth 16) s) := by
  have hc := (replyComplete_iff s).mpr ⟨hp, hn⟩
  have ht : (s.rxck && s.rxsum != 0) = true := by rw [hk, Bool.true_and, bne_iff_ne]; exact hs
  rw [endReply, if_pos hc, if_pos ht]

/-- `RXHDR[i] <- b` on the header as a byte string. -/
theorem set_bytes {h h' : RxHdr} {i : Nat} {b : Byte} (hs : h.set i b = some h') :
    i < 5 ∧ h'.bytes = h.bytes.set i b := by
  unfold RxHdr.set at hs
  split at hs <;> first | (cases hs; exact ⟨by omega, rfl⟩) | cases hs

theorem set_isSome (h : RxHdr) {i : Nat} (b : Byte) (hi : i < 5) : ∃ h', h.set i b = some h' := by
  match i, hi with
  | 0, _ => exact ⟨_, rfl⟩
  | 1, _ => exact ⟨_, rfl⟩
  | 2, _ => exact ⟨_, rfl⟩
  | 3, _ => exact ⟨_, rfl⟩
  | 4, _ => exact ⟨_, rfl⟩

theorem storeByte_some {b : Byte} {s t : State} (h : storeByte b s = some t) :
    (s.phase = .rxhdr ∧ ∃ h', s.rxhdr.set s.rxcnt.toNat b = some h' ∧ t = storeHeader h' s) ∨
      (s.phase = .rxbody ∧ 5 ≤ s.rxcnt.toNat ∧ s.rxcnt.toNat < 5 + s.rxlen.toNat ∧
        t = storeRegion (s.rxcnt.toNat - 5) b s) ∨
      (s.phase = .rxbody ∧ s.rxcnt.toNat = 5 + s.rxlen.toNat ∧ t = storeChecksum b s) := by
  unfold storeByte at h
  split at h
  · rename_i hp
    obtain ⟨h', hs, ht⟩ := Option.map_eq_some_iff.mp h
    exact .inl ⟨hp, h', hs, ht.symm⟩
  · rename_i hp
    split at h
    · cases h
    · split at h
      · exact .inr (.inl ⟨hp, by omega, ‹_›, (Option.some.inj h).symm⟩)
      · split at h
        · exact .inr (.inr ⟨hp, ‹_›, (Option.some.inj h).symm⟩)
        · cases h
  · cases h

end Sys2Proof.Machine
end

