-- ==== Sys2Proof/Laws/PerInstr.lean ====
section
/-! SUPPORT. The opcode table as data, and the family MatchesRow: a well-formed instruction's encoding stands in its
row's format, and its leading bits, numbered as the table numbers them, are those of the row. -/

namespace Sys2Proof.Laws

/-- The number that bytes spell, the byte with the lowest offset in the lowest bits (R88). -/
def natOfBytes : List Byte → Nat
  | [] => 0
  | b :: bs => b.toNat + 256 * natOfBytes bs

/-- A row of spec/opcode_table.json (R82, R83, R88): its format, how many leading bytes it fixes, and which of their
values are the row's: its match value, all of whose bits its mask has, or the condition of the two rows without one.
A HOST row has no bit pattern. -/
def tableRow : Instr → Option (Format × Nat × (Nat → Bool))
  | .cf _ _ _ _ _ => some (.cf, 3, fun w => w == 0x0001AA)
  | .rf _ => some (.rf, 3, fun w => w == 0x0001AB)
  | .setVolume _ => some (.cfCode, 2, fun w => w == 0x0080)
  | .setStandby _ => some (.cfCode, 2, fun w => w == 0x0081)
  | .setMonitorSettings _ => some (.cfCode, 2, fun w => w == 0x0096)
  | .setAddr _ => some (.cfCode, 2, fun w => w == 0x7801)
  | .setRxEdid _ => some (.cfCode, 2, fun w => w == 0x7850)
  | .downloadUserEdid _ => some (.cfCode, 2, fun w => w == 0x7851)
  | .setBaudRate _ => some (.cfCode, 2, fun w => w == 0x7879)
  | .getVolume _ => some (.cfCode, 2, fun w => w == 0x8080)
  | .getStandby _ => some (.cfCode, 2, fun w => w == 0x8081)
  | .getSource _ => some (.cfCode, 2, fun w => w == 0x8082)
  | .getSignalInfo _ => some (.cfCode, 2, fun w => w == 0x8090)
  | .getTiming _ => some (.cfCode, 2, fun w => w == 0x8091)
  | .getSignalPackageInfo _ => some (.cfCode, 2, fun w => w == 0x8092)
  | .getPicture _ => some (.cfCode, 2, fun w => w == 0x8095)
  | .getMonitoringData _ => some (.cfCode, 2, fun w => w == 0x8096)
  | .getPixelRgbData _ => some (.cfCode, 2, fun w => w == 0x8097)
  | .getBatteryVoltage _ => some (.cfCode, 2, fun w => w == 0x8098)
  | .getExt5vInput _ => some (.cfCode, 2, fun w => w == 0x8099)
  | .getSignalStatus _ => some (.cfCode, 2, fun w => w == 0x809F)
  | .getDeviceAddr _ => some (.cfCode, 2, fun w => w == 0xF801)
  | .getDeviceVersion _ => some (.cfCode, 2, fun w => w == 0xF802)
  | .getRxEdidIndex _ => some (.cfCode, 2, fun w => w == 0xF850)
  | .getRxEdidData _ => some (.cfCode, 2, fun w => w == 0xF851)
  | .getFwInfo _ => some (.cfCode, 2, fun w => w == 0xF858)
  | .feedback _ => some (.rfCode, 2, fun w => w == 0xFFFF)
  | .dataReply _ _ => some (.rfCode, 2, fun w => w != 0xFFFF)
  | .fbOk _ => some (.rfFeedback, 3, fun w => w == 0x00FFFF)
  | .fbChecksumError _ => some (.rfFeedback, 3, fun w => w == 0x01FFFF)
  | .fbWrongCommand _ => some (.rfFeedback, 3, fun w => w == 0x02FFFF)
  | .fbExecError _ => some (.rfFeedback, 3, fun w => w == 0x03FFFF)
  | .fbInvalidMode _ => some (.rfFeedback, 3, fun w => w == 0x04FFFF)
  | .fbAddressError _ => some (.rfFeedback, 3, fun w => w == 0x05FFFF)
  | .fbUnknown _ _ => some (.rfFeedback, 3, fun w => w % 0x10000 == 0xFFFF && 6 ≤ w / 0x10000)
  | .send _ => none
  | .recv => none
  | .rdcr _ => none
  | .reset _ _ _ => none

/-- The instruction's encoding is one of its row's. -/
def MatchesRow.Statement (i : Instr) : Prop :=
  i.wellFormed = true →
    match tableRow i with
    | none => ∃ r, encode i = .request r ∧ decodeRequest r = i
    | some (f, n, test) =>
      ∃ bs, encode i = .bytes f bs ∧ n ≤ bs.length ∧ test (natOfBytes (bs.take n)) = true

/-- Two code bytes spell the code. -/
theorem natOfBytes_withCode (c : Half) (rest : List Byte) : natOfBytes ((withCode c rest).take 2) = c.toNat := by
  simp only [withCode, List.take_succ_cons, List.take_zero, natOfBytes, toNat_lo8, toNat_hi8]
  omega

theorem MatchesRow.cf (len : Half) (g d : Byte) (p : List Byte) (cs : Byte) : MatchesRow.Statement (.cf len g d p cs) :=
  fun _ => ⟨_, rfl, by simp [frameBytes], rfl⟩

theorem MatchesRow.rf (len : Half) : MatchesRow.Statement (.rf len) := fun _ => ⟨_, rfl, by simp, rfl⟩

theorem MatchesRow.setVolume (a : List Byte) : MatchesRow.Statement (.setVolume a) :=
  fun _ => ⟨_, rfl, by simp [withCode], rfl⟩

theorem MatchesRow.setStandby (a : List Byte) : MatchesRow.Statement (.setStandby a) :=
  fun _ => ⟨_, rfl, by simp [withCode], rfl⟩

theorem MatchesRow.setMonitorSettings (a : List Byte) : MatchesRow.Statement (.setMonitorSettings a) :=
  fun _ => ⟨_, rfl, by simp [withCode], rfl⟩

theorem MatchesRow.setAddr (a : List Byte) : MatchesRow.Statement (.setAddr a) :=
  fun _ => ⟨_, rfl, by simp [withCode], rfl⟩

theorem MatchesRow.setRxEdid (a : List Byte) : MatchesRow.Statement (.setRxEdid a) :=
  fun _ => ⟨_, rfl, by simp [withCode], rfl⟩

theorem MatchesRow.downloadUserEdid (a : List Byte) : MatchesRow.Statement (.downloadUserEdid a) :=
  fun _ => ⟨_, rfl, by simp [withCode], rfl⟩

theorem MatchesRow.setBaudRate (a : List Byte) : MatchesRow.Statement (.setBaudRate a) :=
  fun _ => ⟨_, rfl, by simp [withCode], rfl⟩

theorem MatchesRow.getVolume (a : List Byte) : MatchesRow.Statement (.getVolume a) :=
  fun _ => ⟨_, rfl, by simp [withCode], rfl⟩

theorem MatchesRow.getStandby (a : List Byte) : MatchesRow.Statement (.getStandby a) :=
  fun _ => ⟨_, rfl, by simp [withCode], rfl⟩

theorem MatchesRow.getSource (a : List Byte) : MatchesRow.Statement (.getSource a) :=
  fun _ => ⟨_, rfl, by simp [withCode], rfl⟩

theorem MatchesRow.getSignalInfo (a : List Byte) : MatchesRow.Statement (.getSignalInfo a) :=
  fun _ => ⟨_, rfl, by simp [withCode], rfl⟩

theorem MatchesRow.getTiming (a : List Byte) : MatchesRow.Statement (.getTiming a) :=
  fun _ => ⟨_, rfl, by simp [withCode], rfl⟩

theorem MatchesRow.getSignalPackageInfo (a : List Byte) : MatchesRow.Statement (.getSignalPackageInfo a) :=
  fun _ => ⟨_, rfl, by simp [withCode], rfl⟩

theorem MatchesRow.getPicture (a : List Byte) : MatchesRow.Statement (.getPicture a) :=
  fun _ => ⟨_, rfl, by simp [withCode], rfl⟩

theorem MatchesRow.getMonitoringData (a : List Byte) : MatchesRow.Statement (.getMonitoringData a) :=
  fun _ => ⟨_, rfl, by simp [withCode], rfl⟩

theorem MatchesRow.getPixelRgbData (a : List Byte) : MatchesRow.Statement (.getPixelRgbData a) :=
  fun _ => ⟨_, rfl, by simp [withCode], rfl⟩

theorem MatchesRow.getBatteryVoltage (a : List Byte) : MatchesRow.Statement (.getBatteryVoltage a) :=
  fun _ => ⟨_, rfl, by simp [withCode], rfl⟩

theorem MatchesRow.getExt5vInput (a : List Byte) : MatchesRow.Statement (.getExt5vInput a) :=
  fun _ => ⟨_, rfl, by simp [withCode], rfl⟩

theorem MatchesRow.getSignalStatus (a : List Byte) : MatchesRow.Statement (.getSignalStatus a) :=
  fun _ => ⟨_, rfl, by simp [withCode], rfl⟩

theorem MatchesRow.getDeviceAddr (a : List Byte) : MatchesRow.Statement (.getDeviceAddr a) :=
  fun _ => ⟨_, rfl, by simp [withCode], rfl⟩

theorem MatchesRow.getDeviceVersion (a : List Byte) : MatchesRow.Statement (.getDeviceVersion a) :=
  fun _ => ⟨_, rfl, by simp [withCode], rfl⟩

theorem MatchesRow.getRxEdidIndex (a : List Byte) : MatchesRow.Statement (.getRxEdidIndex a) :=
  fun _ => ⟨_, rfl, by simp [withCode], rfl⟩

theorem MatchesRow.getRxEdidData (a : List Byte) : MatchesRow.Statement (.getRxEdidData a) :=
  fun _ => ⟨_, rfl, by simp [withCode], rfl⟩

theorem MatchesRow.getFwInfo (a : List Byte) : MatchesRow.Statement (.getFwInfo a) :=
  fun _ => ⟨_, rfl, by simp [withCode], rfl⟩

theorem MatchesRow.feedback (a : List Byte) : MatchesRow.Statement (.feedback a) :=
  fun _ => ⟨_, rfl, by simp [withCode], rfl⟩

theorem MatchesRow.dataReply (c : Half) (p : List Byte) : MatchesRow.Statement (.dataReply c p) := by
  intro h
  refine ⟨_, rfl, by simp [withCode], ?_⟩
  rw [natOfBytes_withCode, bne_iff_ne]
  intro hc
  simp only [Instr.wellFormed, Bool.and_eq_true, bne_iff_ne] at h
  exact h.1 (BitVec.eq_of_toNat_eq hc)

theorem MatchesRow.fbOk (a : List Byte) : MatchesRow.Statement (.fbOk a) :=
  fun _ => ⟨_, rfl, by simp [withStatus, withCode], rfl⟩

theorem MatchesRow.fbChecksumError (a : List Byte) : MatchesRow.Statement (.fbChecksumError a) :=
  fun _ => ⟨_, rfl, by simp [withStatus, withCode], rfl⟩

theorem MatchesRow.fbWrongCommand (a : List Byte) : MatchesRow.Statement (.fbWrongCommand a) :=
  fun _ => ⟨_, rfl, by simp [withStatus, withCode], rfl⟩

theorem MatchesRow.fbExecError (a : List Byte) : MatchesRow.Statement (.fbExecError a) :=
  fun _ => ⟨_, rfl, by simp [withStatus, withCode], rfl⟩

theorem MatchesRow.fbInvalidMode (a : List Byte) : MatchesRow.Statement (.fbInvalidMode a) :=
  fun _ => ⟨_, rfl, by simp [withStatus, withCode], rfl⟩

theorem MatchesRow.fbAddressError (a : List Byte) : MatchesRow.Statement (.fbAddressError a) :=
  fun _ => ⟨_, rfl, by simp [withStatus, withCode], rfl⟩

theorem MatchesRow.fbUnknown (st : Byte) (r : List Byte) : MatchesRow.Statement (.fbUnknown st r) := by
  intro h
  refine ⟨_, rfl, by simp [withStatus, withCode], ?_⟩
  simp only [Instr.wellFormed, Bool.and_eq_true, decide_eq_true_eq] at h
  have hn : natOfBytes ((withStatus st r).take 3) = 0xFFFF + 0x10000 * st.toNat := by
    simp only [withStatus, withCode, List.take_succ_cons, List.take_zero, natOfBytes, toNat_lo8, toNat_hi8,
      Config.feedbackCode]
    simp
    omega
  rw [hn]
  simp only [Bool.and_eq_true, beq_iff_eq, decide_eq_true_eq]
  omega

theorem MatchesRow.send (p : List Byte) : MatchesRow.Statement (.send p) := fun _ => ⟨_, rfl, rfl⟩

theorem MatchesRow.recv : MatchesRow.Statement .recv := fun _ => ⟨_, rfl, rfl⟩

theorem MatchesRow.rdcr (n : Nat) : MatchesRow.Statement (.rdcr n) := fun _ => ⟨_, rfl, rfl⟩

theorem MatchesRow.reset (g d : Byte) (k : Bool) : MatchesRow.Statement (.reset g d k) := fun _ => ⟨_, rfl, rfl⟩

end Sys2Proof.Laws
end

