-- ==== Sys2Proof/Laws/Step.lean ====
section
/-! SUPPORT. What a step can do, event by event, and what the decoders used by the fetch can answer. -/

namespace Sys2Proof.Machine

/-- The event taken is the first enabled one, and the others keep their order. -/
theorem takeEnabled_some {ph : Phase} {es es' : List Event} {e : Event} (h : takeEnabled ph es = some (e, es')) :
    ∃ pre post, es = pre ++ e :: post ∧ es' = pre ++ post ∧ enabled ph e = true ∧
      ∀ x ∈ pre, enabled ph x = false := by
  induction es generalizing es' with
  | nil => cases h
  | cons x xs ih =>
    simp only [takeEnabled] at h
    split at h
    · cases h
      exact ⟨[], xs, rfl, rfl, ‹_›, by simp⟩
    · rename_i hx
      split at h
      · cases h
      · rename_i e' es'' hr
        cases h
        obtain ⟨pre, post, h1, h2, h3, h4⟩ := ih hr
        refine ⟨x :: pre, post, by simp [h1], by simp [h2], h3, ?_⟩
        intro y hy
        rcases List.mem_cons.mp hy with rfl | hy
        · simpa using hx
        · exact h4 y hy

theorem takeEnabled_none {ph : Phase} {es : List Event} :
    takeEnabled ph es = none ↔ ∀ e ∈ es, enabled ph e = false := by
  induction es with
  | nil => simp [takeEnabled]
  | cons x xs ih =>
    simp only [takeEnabled]
    split
    · rename_i hx
      simp [hx]
    · rename_i hx
      split
      · rename_i hr
        have := ih.mp hr
        simp only [Bool.not_eq_true] at hx
        simp only [true_iff, List.mem_cons, forall_eq_or_imp]
        exact ⟨hx, this⟩
      · rename_i hr
        constructor
        · intro h; cases h
        · intro h
          have := ih.mpr fun e he => h e (List.mem_cons_of_mem _ he)
          rw [this] at hr
          cases hr

/-- The first event of the schedule is taken if it is enabled. -/
theorem nextEvent_head {s : State} {e : Event} {es : List Event} (h : s.sched = e :: es)
    (he : enabled s.phase e = true) : nextEvent s = some (e, { s with sched := es }) := by
  simp [nextEvent, takeEnabled, h, he]

theorem nextEvent_some {s s1 : State} {e : Event} (h : nextEvent s = some (e, s1)) :
    enabled s.phase e = true ∧
      ∃ pre post, s.sched = pre ++ e :: post ∧ s1 = { s with sched := pre ++ post } ∧
        ∀ x ∈ pre, enabled s.phase x = false := by
  unfold nextEvent at h
  split at h
  · cases h
  · rename_i e' es' hr
    cases h
    obtain ⟨pre, post, h1, h2, h3, h4⟩ := takeEnabled_some hr
    exact ⟨h3, pre, post, h1, by rw [h2], h4⟩

/-- One row of a table written as a chain of conditions. -/
theorem ite_some_cases {α : Type} {p : Prop} [Decidable p] {a b : α} {x : Option α}
    (h : (if p then some a else x) = some b) : (p ∧ a = b) ∨ x = some b := by
  split at h
  · exact .inl ⟨‹_›, Option.some.inj h⟩
  · exact .inr h

/-- A command row runs as the SEND of its code and arguments. -/
theorem exec_of_commandOfCode {c : Half} {f : List Byte → Instr} (h : commandOfCode c = some f)
    (args : List Byte) (s : State) : exec (f args) s = acceptSend (withCode c args) s := by
  unfold commandOfCode at h
  iterate 24
    rcases ite_some_cases h with ⟨rfl, rfl⟩ | h
    · rfl
  cases h

/-- A SEND request runs as SEND, whatever its payload decodes to. -/
theorem exec_instrOfPayload (p : List Byte) (s : State) : exec (instrOfPayload p) s = acceptSend p s := by
  unfold instrOfPayload
  split
  · rename_i i h
    unfold decodeCommand at h
    split at h
    · split at h
      · rename_i f hf
        cases h
        rw [exec_of_commandOfCode hf]
        simp [withCode]
      · cases h
    · cases h
  · rfl

/-- Whatever a feedback region of this code, status and rest decodes to runs the same way: by its status alone. -/
theorem exec_of_decodeFeedback {r : List Byte} {i : Instr} (h : decodeFeedback r = .ok i) :
    ∃ st rest, r = withStatus st rest ∧
      ∀ s, exec i s = endReply (if st = Config.statusOk then feedbackAccepts rest else feedbackRejects st) s := by
  unfold decodeFeedback at h
  split at h
  · rename_i b0 b1 st rest
    split at h
    · cases h
    · rename_i hc
      simp only [ne_eq, not_not] at hc
      refine ⟨st, rest, by simp [withStatus, withCode, ← hc], fun s => ?_⟩
      iterate 6
        split at h
        · subst_vars; cases h; rfl
      cases h
      rw [if_neg (by assumption)]
      rfl
  · cases h

/-- What a complete reply with payload region `r` does where the validator lets it pass (R126 to R130). -/
inductive RegionDoes : List Byte → (State → State) → Prop where
  | short (r : List Byte) (h : r.length < 2) : RegionDoes r shortFrame
  | noStatus : RegionDoes (withCode Config.feedbackCode []) fun s => shortFrame (noteCode Config.feedbackCode s)
  | accepts (rest : List Byte) : RegionDoes (withStatus Config.statusOk rest) (feedbackAccepts rest)
  | rejects (st : Byte) (rest : List Byte) (h : st ≠ Config.statusOk) :
      RegionDoes (withStatus st rest) (feedbackRejects st)
  | data (c : Half) (tail : List Byte) (h : c ≠ Config.feedbackCode) :
      RegionDoes (withCode c tail) fun s => deliver c tail (noteCode c s)

/-- What an event does to the state `s` it is taken from the schedule of: every next state of a step. -/
inductive Effect (s : State) : Event → State → Prop where
  | reset (g d : Byte) (k : Bool) : Effect s (.reset g d k) (resetBlock g d k s)
  | sendRefused (p : List Byte) (hp : s.phase = .idle) (hl : Config.txMax < p.length) :
      Effect s (.reqSend p) (raise .argumentError 0 (clearError s))
  | sendStarts (p : List Byte) (hp : s.phase = .idle) (hl : p.length ≤ Config.txMax) :
      Effect s (.reqSend p) (startFrame p (clearError s))
  | recvRefused (hp : s.phase = .idle) (hd : s.daddr ≠ Config.direct) :
      Effect s .reqRecv (raise .noReply (s.daddr.setWidth 16) (clearError s))
  | recvStarts (hp : s.phase = .idle) (hd : s.daddr = Config.direct) :
      Effect s .reqRecv (startReply (clearError s))
  | reads (n : Nat) (hp : s.phase = .idle) :
      Effect s (.reqRdcr n) (endOperation (.val (controlRegister n s)) s)
  | pushes (f : List Byte) (b : Byte) (hp : s.phase = .tx) (hf : txFrame s = some f)
      (hb : f[s.txcnt.toNat]? = some b) (hl : s.txcnt + 1 ≠ s.txlen) : Effect s .txAcc (pushByte b s)
  | pushesLast (f : List Byte) (b : Byte) (hp : s.phase = .tx) (hf : txFrame s = some f)
      (hb : f[s.txcnt.toNat]? = some b) (hl : s.txcnt + 1 = s.txlen) :
      Effect s .txAcc (endOperation .sent (pushByte b s))
  | fails (k : FailKind) : Effect s (.xfail k) (raise .transportError k.code s)
  | headerByte (b : Byte) (h : RxHdr) (hp : s.phase = .rxhdr) (hs : s.rxhdr.set s.rxcnt.toNat b = some h)
      (hn : (s.rxcnt + 1).toNat ≠ 5) : Effect s (.rxByte b) (pullByte b (storeHeader h s))
  | badHeader (b : Byte) (h : RxHdr) (hp : s.phase = .rxhdr) (hs : s.rxhdr.set s.rxcnt.toNat b = some h)
      (hn : (s.rxcnt + 1).toNat = 5) (ht : h.tag ≠ Config.tagRx) :
      Effect s (.rxByte b) (raise .badHeader (h.tag.setWidth 16) (pullByte b (storeHeader h s)))
  | badDeviceId (b : Byte) (h : RxHdr) (hp : s.phase = .rxhdr) (hs : s.rxhdr.set s.rxcnt.toNat b = some h)
      (hn : (s.rxcnt + 1).toNat = 5) (ht : h.tag = Config.tagRx) (hd : le16 h.devLo h.devHi ≠ Config.devId) :
      Effect s (.rxByte b) (raise .badDeviceId (le16 h.devLo h.devHi) (pullByte b (storeHeader h s)))
  | headerDone (b : Byte) (h : RxHdr) (hp : s.phase = .rxhdr) (hs : s.rxhdr.set s.rxcnt.toNat b = some h)
      (hn : (s.rxcnt + 1).toNat = 5) (ht : h.tag = Config.tagRx) (hd : le16 h.devLo h.devHi = Config.devId) :
      Effect s (.rxByte b) (acceptHeader (le16 h.lenLo h.lenHi) (pullByte b (storeHeader h s)))
  | bodyByte (b : Byte) (hp : s.phase = .rxbody) (h5 : 5 ≤ s.rxcnt.toNat)
      (hn : s.rxcnt.toNat < 5 + s.rxlen.toNat) :
      Effect s (.rxByte b) (pullByte b (storeRegion (s.rxcnt.toNat - 5) b s))
  /-- the last byte of a frame with region `r`, which does `act` unless the validator finds a residue -/
  | replyEnds (b : Byte) (r : List Byte) (act : State → State) (hp : s.phase = .rxbody)
      (hn : s.rxcnt.toNat = 5 + s.rxlen.toNat) (hr : rxRegion s = some r) (ha : RegionDoes r act) :
      Effect s (.rxByte b)
        (if s.rxck && s.rxsum + b != 0 then
          raise .checksumMismatch ((s.rxsum + b).setWidth 16) (pullByte b (storeChecksum b s))
        else act (pullByte b (storeChecksum b s)))

/-- How the region of a complete frame acts (R126 to R130). -/
theorem exec_instrOfRegion (len : Half) (r : List Byte) (hr : r.length = len.toNat) :
    ∃ act : State → State,
      (∀ s : State, s.rxlen = len → s.phase = .rxbody → exec (instrOfRegion len r) s = endReply act s) ∧
        RegionDoes r act := by
  unfold instrOfRegion
  split
  · rename_i i h
    obtain ⟨st, rest, rfl, he⟩ := exec_of_decodeFeedback h
    by_cases hst : st = Config.statusOk
    · subst hst
      exact ⟨_, fun s _ _ => (he s).trans (by rw [if_pos rfl]), .accepts rest⟩
    · exact ⟨_, fun s _ _ => (he s).trans (by rw [if_neg hst]), .rejects st rest hst⟩
  · rename_i e hf
    match r, hr, hf with
    | [], hr, _ =>
      exact ⟨shortFrame, fun s hs hp => by simp [decodeRegionCode, exec, execRf, hp, hs, ← hr], .short _ (by simp)⟩
    | [b0], hr, _ =>
      exact ⟨shortFrame, fun s hs hp => by simp [decodeRegionCode, exec, execRf, hp, hs, ← hr], .short _ (by simp)⟩
    | b0 :: b1 :: tail, hr, hf =>
      have hw : b0 :: b1 :: tail = withCode (le16 b0 b1) tail := by simp [withCode]
      by_cases hc : le16 b0 b1 = Config.feedbackCode
      · cases tail with
        | nil =>
          refine ⟨fun s => shortFrame (noteCode Config.feedbackCode s), fun s _ _ => ?_, ?_⟩
          · simp [decodeRegionCode, hc, exec, execFeedback]
          · rw [hw, hc]
            exact .noStatus
        | cons st rest =>
          exfalso
          simp only [decodeFeedback, hc, ne_eq, not_true_eq_false, if_false] at hf
          split_ifs at hf
      · refine ⟨fun s => deliver (le16 b0 b1) tail (noteCode (le16 b0 b1) s), fun s _ _ => ?_, ?_⟩
        · simp [decodeRegionCode, hc, exec, execDataReply]
        · rw [hw]
          exact .data _ _ hc

/-- Every next state of a step is one of the effects of the event it takes. -/
theorem effect_of_step {s s1 t : State} {e : Event} (he : nextEvent s = some (e, s1)) (h : step s = .next t) :
    Effect s1 e t := by
  simp only [step, he] at h
  have hen : enabled s1.phase e = true := by
    obtain ⟨h1, _, _, _, rfl, _⟩ := nextEvent_some he
    exact h1
  cases e with
  | reset g d k =>
    cases h
    exact .reset g d k
  | reqSend p =>
    simp only [fetch, exec_instrOfPayload] at h
    obtain ⟨hp, ⟨hl, rfl⟩ | ⟨hl, rfl⟩⟩ := acceptSend_next h
    · exact .sendRefused p hp hl
    · exact .sendStarts p hp hl
  | reqRecv =>
    obtain ⟨hp, ⟨hd, rfl⟩ | ⟨hd, rfl⟩⟩ := acceptRecv_next h
    · exact .recvStarts hp hd
    · exact .recvRefused hp hd
  | reqRdcr n =>
    simp only [fetch, decodeRequest, exec, execRdcr] at h
    split at h
    · cases h
      exact .reads n ‹_›
    · cases h
  | txAcc =>
    simp only [fetch, fetchFrame] at h
    cases hf : txFrame s1 with
    | none => simp [hf] at h
    | some f =>
      simp only [hf, decode] at h
      cases hd : decodeFrame f with
      | error _ => simp [hd] at h
      | ok i =>
        simp only [hd] at h
        obtain ⟨len, g, d, p, cs, rfl, hfb⟩ : ∃ len g d p cs, i = .cf len g d p cs ∧ frameBytes len g d p cs = f := by
          unfold decodeFrame at hd
          split at hd
          · rename_i t v0 v1 l0 l1 g d x xs
            split at hd
            · cases hd
            · split at hd
              · cases hd
              · rename_i h1 h2
                simp only [ne_eq, not_not] at h1 h2
                cases hd
                refine ⟨_, _, _, _, _, rfl, ?_⟩
                have e0 : lo8 Config.devId = v0 := by rw [← h2, lo8_le16]
                have e1 : hi8 Config.devId = v1 := by rw [← h2, hi8_le16]
                simp only [frameBytes, e0, e1, lo8_le16, hi8_le16, h1, List.cons_append, List.nil_append,
                  List.dropLast_append_getLast]
          · cases hd
        simp only [exec, execCf, hfb] at h
        obtain ⟨hp, b, hb, ⟨hl, rfl⟩ | ⟨hl, rfl⟩⟩ := transmit_next h
        · exact .pushesLast f b hp hf hb hl
        · exact .pushes f b hp hf hb hl
  | xfail k =>
    cases h
    exact .fails k
  | rxByte b =>
    simp only [fetch, fetchByte] at h
    cases hst : storeByte b s1 with
    | none => simp [hst] at h
    | some s2 =>
      simp only [hst] at h
      rcases storeByte_some hst with ⟨hp, h', hs', rfl⟩ | ⟨hp, h5, hlt, rfl⟩ | ⟨hp, hle, rfl⟩
      · simp only [hp] at h
        by_cases hn : (s1.rxcnt + 1).toNat = 5
        · simp only [pullByte_rxcnt, storeHeader_rxcnt, hn,
                if_true] at h
          have hlist : (pullByte b (storeHeader h' s1)).rxhdr.bytes =
              [h'.tag, h'.devLo, h'.devHi, h'.lenLo, h'.lenHi] := rfl
          simp only [fetchHeader, hlist, decode, decodeHeader] at h
          by_cases ht : h'.tag = Config.tagRx
          · by_cases hd : le16 h'.devLo h'.devHi = Config.devId
            · simp only [ht, hd, ne_eq, not_true_eq_false, if_false] at h
              simp only [exec, execRf, pullByte_phase, storeHeader_phase, hp, pullByte_rxcnt, storeHeader_rxcnt, hn,
                if_true] at h
              cases h
              exact .headerDone b h' hp hs' hn ht hd
            · simp only [ht, hd, ne_eq, not_true_eq_false, not_false_eq_true, if_false, if_true] at h
              cases h
              exact .badDeviceId b h' hp hs' hn ht hd
          · simp only [ht, ne_eq, not_false_eq_true, if_true] at h
            cases h
            exact .badHeader b h' hp hs' hn ht
        · simp only [pullByte_rxcnt, storeHeader_rxcnt, hn, if_false] at h
          cases h
          exact .headerByte b h' hp hs' hn
      · have hnc : replyComplete (pullByte b (storeRegion (s1.rxcnt.toNat - 5) b s1))
            = false := by
          rw [← Bool.not_eq_true, replyComplete_iff]
          rintro ⟨-, h⟩
          simp only [pullByte_rxcnt, pullByte_rxlen, storeRegion_rxcnt, storeRegion_rxlen, BitVec.toNat_add,
            BitVec.toNat_ofNat, BitVec.ofNat_eq_ofNat] at h
          have hlt17 := s1.rxlen.isLt
          omega
        simp only [hp, hnc, Bool.false_eq_true, if_false] at h
        cases h
        exact .bodyByte b hp h5 hlt
      · simp only [hp] at h
        have hlt17 := s1.rxlen.isLt
        have hlt17' := s1.rxcnt.isLt
        have hc : replyComplete (pullByte b (storeChecksum b s1)) = true := by
          rw [replyComplete_iff]
          refine ⟨hp, ?_⟩
          simp only [pullByte_rxcnt, pullByte_rxlen, storeChecksum_rxcnt, storeChecksum_rxlen, BitVec.toNat_add,
            BitVec.toNat_ofNat, BitVec.ofNat_eq_ofNat]
          omega
        rw [if_pos hc] at h
        have hreg : rxRegion (pullByte b (storeChecksum b s1)) = rxRegion s1 := rfl
        simp only [fetchRegion, hreg] at h
        cases hr : rxRegion s1 with
        | none => simp [hr] at h
        | some r =>
          simp only [hr, pullByte_rxlen, storeChecksum_rxlen] at h
          have hrl := ((readAll_eq_some _ _ _ _).mp hr).1
          obtain ⟨act, hex, ha⟩ := exec_instrOfRegion s1.rxlen r hrl
          rw [hex _ (by simp) (by simpa using hp), endReply, if_pos hc] at h
          cases h
          exact .replyEnds b r act hp hle hr ha

/-- A step that answers a next state took an event. -/
theorem step_takes_event {s t : State} (h : step s = .next t) :
    ∃ e s1, nextEvent s = some (e, s1) ∧ Effect s1 e t := by
  cases he : nextEvent s with
  | none => simp [step, he] at h
  | some x => exact ⟨x.1, x.2, rfl, effect_of_step he h⟩

end Sys2Proof.Machine
end

