-- ==== Sys2Proof/Tests/Slice0.lean ====
section
/-! SUPPORT. Named tests: ill-formed terms, words written out from the spec's encodings, single steps with the results
of 44_command_codes.md and 95_test_vectors.md, and for each obligation with hypotheses a witness that meets them. -/

namespace Sys2Proof.Tests

open Sys2Proof Sys2Proof.Machine

/-! ### States -/

/-- After reset with straps and pending events. -/
def start (g d : Byte) (k : Bool) (es : List Event) : State :=
  { State.reset with gaddr := g, daddr := d, rxck := k, sched := es }

/-- In TX with the frame of the payload `p` in TXBUF and `n` bytes of it pushed. -/
def sending (p : List Byte) (n : Nat) (es : List Event) : State :=
  { State.reset with
    phase := .tx
    txbuf := Memory.writeAll [] 0 (encodeFrame 0x00 0x00 p)
    txlen := BitVec.ofNat 17 (p.length + 8)
    txcnt := BitVec.ofNat 17 n
    txsum := sum8 ((encodeFrame 0x00 0x00 p).take n)
    sched := es }

/-- In RXHDR with `n` bytes of the header `h` pulled and its other bytes zero. -/
def heading (t v0 v1 l0 l1 : Byte) (n : Nat) (es : List Event) : State :=
  { State.reset with
    phase := .rxhdr
    rxhdr := ⟨t, v0, v1, l0, l1⟩
    rxcnt := BitVec.ofNat 17 n
    rxsum := sum8 ([t, v0, v1, l0, l1].take n)
    sched := es }

/-- In RXBODY with an accepted header of length `len` and the bytes `r` of the region pulled. -/
def receiving (len : Half) (r : List Byte) (k : Bool) (es : List Event) : State :=
  { State.reset with
    rxck := k
    phase := .rxbody
    rxhdr := ⟨0xAB, 0x01, 0x00, lo8 len, hi8 len⟩
    rxlen := len
    rlen := len
    rxcnt := BitVec.ofNat 17 (5 + r.length)
    rxbuf := Memory.writeAll [] 0 r
    rxsum := sum8 (headerBytes len ++ r)
    sched := es }

/-- A complete reply: all of its region and its checksum byte pulled. -/
def received (len : Half) (r : List Byte) (k : Bool) (sum : Byte) : State :=
  { receiving len r k [] with rxcnt := BitVec.ofNat 17 (6 + r.length), rxsum := sum }

/-- A payload of `n` bytes. -/
def long (n : Nat) : List Byte := List.replicate n 0x00

theorem length_long (n : Nat) : (long n).length = n := List.length_replicate

/-- A value of the next state, where there is one. -/
def after {α : Type} (o : Host.Outcome State Fault Refusal) (f : State → α) : Option α :=
  match o with
  | .next t => some (f t)
  | _ => none

/-! ### Ill-formed instructions, one for each check of WellFormed -/

/-- The length field is not the payload's length plus 3 (R75). -/
theorem test_illformed_cf_length : (Instr.cf 4 0x00 0x00 [] 0x51).wellFormed = false := by decide

/-- The checksum byte is not the frame's (R71; T3 gives 0x52). -/
theorem test_illformed_cf_checksum : (Instr.cf 3 0x00 0x00 [] 0x53).wellFormed = false := by decide

/-- A payload that the length field cannot count (R75). -/
theorem test_illformed_cf_too_long (p : List Byte) (h : p.length = 65533) :
    (Instr.cf 0 0x00 0x00 p 0x00).wellFormed = false := by
  simp [Instr.wellFormed, Config.txMax, h]

/-- Arguments one byte too many (R75). -/
theorem test_illformed_args_too_long (a : List Byte) (h : a.length = 65531) :
    (Instr.setVolume a).wellFormed = false := by
  simp [Instr.wellFormed, argsFit, Config.txMax, h]

/-- A data reply cannot carry FEEDBACK's code (R126). -/
theorem test_illformed_dataReply_code : (Instr.dataReply 0xFFFF []).wellFormed = false := by decide

/-- A region one byte too long (R76). -/
theorem test_illformed_region_too_long (r : List Byte) (h : r.length = 65534) :
    (Instr.feedback r).wellFormed = false ∧ (Instr.dataReply 0 r).wellFormed = false ∧
      (Instr.fbOk r).wellFormed = false := by
  simp [Instr.wellFormed, regionFits, Config.rxMax, h]

/-- A named status is not FB_UNKNOWN's (R216). -/
theorem test_illformed_fbUnknown_status : (Instr.fbUnknown 0x05 []).wellFormed = false := by decide

/-- A payload that no SEND carries (R106). -/
theorem test_illformed_send_too_long (p : List Byte) (h : p.length = 65533) :
    (Instr.send p).wellFormed = false := by
  simp [Instr.wellFormed, Config.txMax, h]

/-! ### Words written out from the spec's encodings -/

/-- T6 byte by byte: tag AA, 01 00, length 5, addresses 12 and 34, payload 82 80, checksum 08 (R71). -/
theorem test_decode_cf :
    decode (.bytes .cf [0xAA, 0x01, 0x00, 0x05, 0x00, 0x12, 0x34, 0x82, 0x80, 0x08]) =
      .ok (.cf 5 0x12 0x34 [0x82, 0x80] 0x08) := by decide

/-- A reply header with a length above 255, low byte first (R72). -/
theorem test_decode_rf : decode (.bytes .rf [0xAB, 0x01, 0x00, 0x02, 0x01]) = .ok (.rf 0x0102) := by decide

/-- R185: the payload's wire bytes. -/
theorem test_decode_setVolume : decode (.bytes .cfCode [0x80, 0x00]) = .ok (.setVolume []) := by decide

/-- R186: the payload's wire bytes. -/
theorem test_decode_setStandby : decode (.bytes .cfCode [0x81, 0x00]) = .ok (.setStandby []) := by decide

/-- R187: the payload's wire bytes. -/
theorem test_decode_setMonitorSettings : decode (.bytes .cfCode [0x96, 0x00]) =
    .ok (.setMonitorSettings []) := by decide

/-- R188: the payload's wire bytes. -/
theorem test_decode_setAddr : decode (.bytes .cfCode [0x01, 0x78]) = .ok (.setAddr []) := by decide

/-- R189: the payload's wire bytes. -/
theorem test_decode_setRxEdid : decode (.bytes .cfCode [0x50, 0x78]) = .ok (.setRxEdid []) := by decide

/-- R190: the payload's wire bytes. -/
theorem test_decode_downloadUserEdid : decode (.bytes .cfCode [0x51, 0x78]) = .ok (.downloadUserEdid []) := by decide

/-- R191: the payload's wire bytes. -/
theorem test_decode_setBaudRate : decode (.bytes .cfCode [0x79, 0x78]) = .ok (.setBaudRate []) := by decide

/-- R192: the payload's wire bytes. -/
theorem test_decode_getVolume : decode (.bytes .cfCode [0x80, 0x80]) = .ok (.getVolume []) := by decide

/-- R193: the payload's wire bytes. -/
theorem test_decode_getStandby : decode (.bytes .cfCode [0x81, 0x80]) = .ok (.getStandby []) := by decide

/-- R194: the payload's wire bytes. -/
theorem test_decode_getSource : decode (.bytes .cfCode [0x82, 0x80]) = .ok (.getSource []) := by decide

/-- R195: the payload's wire bytes. -/
theorem test_decode_getSignalInfo : decode (.bytes .cfCode [0x90, 0x80]) = .ok (.getSignalInfo []) := by decide

/-- R196: the payload's wire bytes. -/
theorem test_decode_getTiming : decode (.bytes .cfCode [0x91, 0x80]) = .ok (.getTiming []) := by decide

/-- R197: the payload's wire bytes. -/
theorem test_decode_getSignalPackageInfo : decode (.bytes .cfCode [0x92, 0x80]) =
    .ok (.getSignalPackageInfo []) := by decide

/-- R198: the payload's wire bytes. -/
theorem test_decode_getPicture : decode (.bytes .cfCode [0x95, 0x80]) = .ok (.getPicture []) := by decide

/-- R199: the payload's wire bytes. -/
theorem test_decode_getMonitoringData : decode (.bytes .cfCode [0x96, 0x80]) = .ok (.getMonitoringData []) := by decide

/-- R200: the payload's wire bytes. -/
theorem test_decode_getPixelRgbData : decode (.bytes .cfCode [0x97, 0x80]) = .ok (.getPixelRgbData []) := by decide

/-- R201: the payload's wire bytes. -/
theorem test_decode_getBatteryVoltage : decode (.bytes .cfCode [0x98, 0x80]) = .ok (.getBatteryVoltage []) := by decide

/-- R202: the payload's wire bytes. -/
theorem test_decode_getExt5vInput : decode (.bytes .cfCode [0x99, 0x80]) = .ok (.getExt5vInput []) := by decide

/-- R203: the payload's wire bytes. -/
theorem test_decode_getSignalStatus : decode (.bytes .cfCode [0x9F, 0x80]) = .ok (.getSignalStatus []) := by decide

/-- R204: the payload's wire bytes. -/
theorem test_decode_getDeviceAddr : decode (.bytes .cfCode [0x01, 0xF8]) = .ok (.getDeviceAddr []) := by decide

/-- R205: the payload's wire bytes. -/
theorem test_decode_getDeviceVersion : decode (.bytes .cfCode [0x02, 0xF8]) = .ok (.getDeviceVersion []) := by decide

/-- R206: the payload's wire bytes. -/
theorem test_decode_getRxEdidIndex : decode (.bytes .cfCode [0x50, 0xF8]) = .ok (.getRxEdidIndex []) := by decide

/-- R207: the payload's wire bytes. -/
theorem test_decode_getRxEdidData : decode (.bytes .cfCode [0x51, 0xF8]) = .ok (.getRxEdidData []) := by decide

/-- R208: the payload's wire bytes. -/
theorem test_decode_getFwInfo : decode (.bytes .cfCode [0x58, 0xF8]) = .ok (.getFwInfo []) := by decide

/-- R191: 115200 is 00 C2 01 after the code. -/
theorem test_decode_baud_rate_args :
    decode (.bytes .cfCode ([0x79, 0x78] ++ baudArgs 115200)) = .ok (.setBaudRate [0x00, 0xC2, 0x01]) := by decide

/-- R107: a code outside the table is no row; its SEND is the plain one. -/
theorem test_decode_unlisted_code :
    decode (.bytes .cfCode [0x34, 0x12]) = .error (.unlistedCode 0x1234) ∧
      instrOfPayload [0x34, 0x12] = .send [0x34, 0x12] := by decide

/-- R209. -/
theorem test_decode_feedback : decode (.bytes .rfCode [0xFF, 0xFF, 0x02]) = .ok (.feedback [0x02]) := by decide

/-- R128, V6: the code 34 12 is 0x1234. -/
theorem test_decode_dataReply :
    decode (.bytes .rfCode [0x34, 0x12, 0x05]) = .ok (.dataReply 0x1234 [0x05]) := by decide

/-- R210. -/
theorem test_decode_fbOk : decode (.bytes .rfFeedback [0xFF, 0xFF, 0x00, 0x7E]) = .ok (.fbOk [0x7E]) := by decide

/-- R211. -/
theorem test_decode_fbChecksumError :
    decode (.bytes .rfFeedback [0xFF, 0xFF, 0x01]) = .ok (.fbChecksumError []) := by decide

/-- R212. -/
theorem test_decode_fbWrongCommand :
    decode (.bytes .rfFeedback [0xFF, 0xFF, 0x02]) = .ok (.fbWrongCommand []) := by decide

/-- R213. -/
theorem test_decode_fbExecError :
    decode (.bytes .rfFeedback [0xFF, 0xFF, 0x03]) = .ok (.fbExecError []) := by decide

/-- R214. -/
theorem test_decode_fbInvalidMode :
    decode (.bytes .rfFeedback [0xFF, 0xFF, 0x04]) = .ok (.fbInvalidMode []) := by decide

/-- R215. -/
theorem test_decode_fbAddressError :
    decode (.bytes .rfFeedback [0xFF, 0xFF, 0x05]) = .ok (.fbAddressError []) := by decide

/-- R216: the first and the last unnamed status. -/
theorem test_decode_fbUnknown :
    decode (.bytes .rfFeedback [0xFF, 0xFF, 0x06]) = .ok (.fbUnknown 0x06 []) ∧
      decode (.bytes .rfFeedback [0xFF, 0xFF, 0xFF]) = .ok (.fbUnknown 0xFF []) := by decide

/-- R41: the requests. -/
theorem test_decode_send : decode (.request (.send [0x51])) = .ok (.send [0x51]) := by decide
theorem test_decode_recv : decode (.request .recv) = .ok .recv := by decide
theorem test_decode_rdcr : decode (.request (.rdcr 9)) = .ok (.rdcr 9) := by decide
theorem test_decode_reset :
    decode (.request (.reset 0x12 0x34 true)) = .ok (.reset 0x12 0x34 true) := by decide

/-! ### Single steps -/

/-- R185 to R208: the checksum byte of the frame each command loads at 00/00, from the rules' examples. -/
theorem test_command_frames :
    (([(.setVolume, 0xD0), (.setStandby, 0xCF), (.setMonitorSettings, 0xBA), (.setAddr, 0xD7),
    (.setRxEdid, 0x88), (.downloadUserEdid, 0x87), (.setBaudRate, 0x5F), (.getVolume, 0x50),
    (.getStandby, 0x4F), (.getSource, 0x4E), (.getSignalInfo, 0x40), (.getTiming, 0x3F),
    (.getSignalPackageInfo, 0x3E), (.getPicture, 0x3B), (.getMonitoringData, 0x3A), (.getPixelRgbData, 0x39),
    (.getBatteryVoltage, 0x38), (.getExt5vInput, 0x37), (.getSignalStatus, 0x31), (.getDeviceAddr, 0x57),
    (.getDeviceVersion, 0x56), (.getRxEdidIndex, 0x08), (.getRxEdidData, 0x07), (.getFwInfo, 0x00)] :
      List ((List Byte → Instr) × Byte)).all fun x =>
        after (exec (x.1 []) State.reset) (fun t => (txFrame t).map fun f => (f.take 7, f.length, f.getLast?)) ==
          some (some ([0xAA, 0x01, 0x00, 0x05, 0x00, 0x00, 0x00], 10, some x.2))) = true := by decide

/-- T7: SET_BAUD_RATE with 115200. -/
theorem test_baud_rate_frame :
    after (exec (.setBaudRate (baudArgs 115200)) State.reset) txFrame =
      some (some [0xAA, 0x01, 0x00, 0x08, 0x00, 0x00, 0x00, 0x79, 0x78, 0x00, 0xC2, 0x01, 0x99]) := by decide

/-- T6: SEND at 12/34. -/
theorem test_send_loads_T6 :
    after (exec (.send [0x82, 0x80]) (start 0x12 0x34 false [])) (fun t => (t.phase, t.txlen, txFrame t)) =
      some (.tx, 10, some [0xAA, 0x01, 0x00, 0x05, 0x00, 0x12, 0x34, 0x82, 0x80, 0x08]) := by decide

/-- S8: a SEND clears the error and leaves DESYNC set. -/
theorem test_send_keeps_desync :
    after (exec (.send [0x80, 0x80]) { State.reset with desync := true, errcode := 6, errinfo := 0x67 })
      (fun t => (t.desync, t.errcode, t.errinfo)) = some (true, 0, 0) := by decide

/-- T3: the eighth byte of the shortest frame ends the SEND. -/
theorem test_cf_last_byte :
    after (step (sending [] 7 [.txAcc])) (fun t => (t.phase, t.txStream, t.txsum, t.txcnt, t.responses)) =
      some (.idle, [0x52], 0, 8, [.sent]) := by decide

/-- T12: DISCONNECT after four bytes of T1. -/
theorem test_xfail_in_tx_T12 :
    after (step (sending [0x80, 0x80] 4 [.xfail .disconnect]))
        (fun t => (t.responses, t.txcnt, t.txlen, t.txsum, t.desync)) =
      some ([.err 4 0x0002], 4, 10, 0xB0, true) := by decide

/-- RECV at FF/00 is accepted, whatever the group (R153). -/
theorem test_recv_group_plays_no_part :
    after (exec .recv (start 0xFF 0x00 false [])) (fun t => (t.phase, t.responses)) = some (.rxhdr, []) := by decide

/-- P3: RECV at FF/FF. -/
theorem test_recv_refused_P3 :
    after (exec .recv (start 0xFF 0xFF false [])) (fun t => (t.phase, t.responses, t.desync)) =
      some (.idle, [.err 8 0x00FF], false) := by decide

/-- V1's header: the fifth byte captures the length. -/
theorem test_rf_header_V1 :
    after (step (heading 0xAB 0x01 0x00 0x03 0x00 4 [.rxByte 0x00])) (fun t => (t.phase, t.rxlen, t.rlen, t.rxcnt)) =
      some (.rxbody, 3, 3, 5) := by decide

/-- V22 and V24: the device-class check, and the tag before it. -/
theorem test_header_checks_V22_V24 :
    after (step (heading 0xAB 0x02 0x00 0x03 0x00 4 [.rxByte 0x00])) (fun t => (t.responses, t.rlen, t.desync)) =
        some ([.err 2 0x0002], 0, true) ∧
      after (step (heading 0xAA 0x02 0x00 0x03 0x00 4 [.rxByte 0x00])) (fun t => (t.responses, t.rlen, t.desync)) =
        some ([.err 1 0x00AA], 0, true) := by decide

/-- V8: a region of one byte is too short; RCODE is not written. -/
theorem test_rf_short_V8 :
    after (step (receiving 1 [0x80] false [.rxByte 0xD3])) (fun t => (t.responses, t.rcode, t.desync)) =
      some ([.err 7 0x0001], 0, true) := by decide

/-- V9: a feedback code without a status; RCODE is written. -/
theorem test_feedback_short_V9 :
    after (step (receiving 2 [0xFF, 0xFF] false [.rxByte 0x54])) (fun t => (t.responses, t.rcode, t.desync)) =
      some ([.err 7 0x0002], 0xFFFF, true) := by decide

/-- FEEDBACK as a row of its own decides by the status as its rows do (R129, V19). -/
theorem test_feedback_rejects :
    after (exec (.feedback [0x03, 0x7E]) (received 4 [0xFF, 0xFF, 0x03, 0x7E] false 0))
        (fun t => (t.responses, t.rstat)) = some ([.err 3 0x0003], 0x03) := by decide

/-- V3: with RXCK = 0 a wrong checksum is ignored. -/
theorem test_dataReply_V3 :
    after (step (receiving 3 [0x80, 0x80, 0x05] false [.rxByte 0xB3]))
        (fun t => (t.responses, t.rxsum, t.rxcs, t.rcode, t.rxcnt)) =
      some ([.data 0x8080 [0x05]], 0x67, 0xB3, 0x8080, 9) := by decide

/-- V4: with RXCK = 1 it is not, and RCODE is not written. -/
theorem test_dataReply_V4 :
    after (step (receiving 3 [0x80, 0x80, 0x05] true [.rxByte 0xB3])) (fun t => (t.responses, t.rcode, t.desync)) =
      some ([.err 6 0x0067], 0, true) := by decide

/-- V18: the bytes after an OK status are returned. -/
theorem test_fbOk_V18 :
    after (step (receiving 4 [0xFF, 0xFF, 0x00, 0x7E] false [.rxByte 0xD4])) (fun t => (t.responses, t.rstat)) =
      some ([.data 0xFFFF [0x00, 0x7E]], 0) := by decide

/-- V25: the residue outranks the status. -/
theorem test_fbWrongCommand_V25 :
    after (step (receiving 3 [0xFF, 0xFF, 0x02] true [.rxByte 0x00])) (fun t => (t.responses, t.rcode, t.rstat)) =
      some ([.err 6 0x00AF], 0, 0) := by decide

/-- V11 to V17: each rejecting status; DESYNC stays clear. -/
theorem test_fb_rejections_V11_to_V17 :
    (([0x01, 0x02, 0x03, 0x04, 0x05, 0x06, 0xFF] : List Byte).all fun st =>
      after (step (receiving 3 [0xFF, 0xFF, st] false [.rxByte 0x00]))
          (fun t => (t.responses, t.rcode, t.rstat, t.desync)) ==
        some ([.err 3 (st.setWidth 16)], 0xFFFF, st, false)) = true := by decide

/-- S3: CR[0] and CR[1] after a reset with straps FF, FF, 1. -/
theorem test_rdcr_S3 :
    (controlRegister 0 (start 0xFF 0xFF true []), controlRegister 1 (start 0xFF 0xFF true []),
      controlRegister 3 (start 0xFF 0xFF true [])) = (0xFFFF, 0x1, 0x0) := by decide

/-- S2 and S10. -/
theorem test_rdcr_S2_S10 :
    after (exec (.rdcr 1000) State.reset) (fun t => t.responses) = some [.val 0] ∧
      after (exec (.rdcr 3) { State.reset with desync := true }) (fun t => t.responses) = some [.val 0x12] := by decide

/-- S7: a RESET in TX: IDLE, no response, the bytes stay on the wire. -/
theorem test_reset_S7 :
    after (step { sending [0x80, 0x80] 4 [.reset 0x00 0x00 false] with txStream := [0xAA, 0x01, 0x00, 0x05] })
        (fun t => (t.phase, t.txcnt, t.txlen, t.responses, t.txStream)) =
      some (.idle, 0, 0, [], [0xAA, 0x01, 0x00, 0x05]) := by decide

/-- S6: in IDLE a byte stays with its source and there is no step. -/
theorem test_no_enabled_event_S6 : step (start 0x00 0x00 false [.rxByte 0xAB]) = .refused .noEnabledEvent := by rfl

/-- S4, R166: a byte that is not enabled waits; the TXACC behind it happens. -/
theorem test_disabled_event_waits_S4 :
    after (step (sending [] 0 [.rxByte 0xAB, .txAcc])) (fun t => (t.sched, t.txStream)) =
      some ([.rxByte 0xAB], [0xAA]) := by decide

/-- H1, H4: Timings. -/
theorem test_timings_H1_H4 :
    (parseTimings ([0x00, 0x64, 0x00, 0x07, 0x00, 0x08] ++ List.replicate 14 0x00)).map
        (fun t => (t.clock, t.interlace, t.hsyncPositive, t.vsyncPositive, t.geometry)) =
        .ok (1000, true, true, true, [2048, 0, 0, 0, 0, 0, 0, 0]) ∧
      parseTimings (List.replicate 19 0x00) = .error .undecodable := ⟨rfl, rfl⟩

/-- H8: battery voltages. -/
theorem test_battery_H8 :
    [batteryVoltage false [0xE4, 0x0C], batteryVoltage false [0x47, 0x0D], batteryVoltage false [0x63, 0x00],
      batteryVoltage false [0xFF, 0xFF]] = [.ok 33, .ok 33, .ok 0, .ok 655] := by rfl

/-- H9: a level or status out of range returns ArgumentError, whatever the block has answered. -/
theorem test_argument_checks_H9 :
    nextMove 0x00 0x00 (setVolume 9) [] = .result (.error .argument) ∧
      nextMove 0x00 0x00 (setVolume (-1)) [] = .result (.error .argument) ∧
      nextMove 0x00 0x00 (setStandby 2) [] = .result (.error .argument) := ⟨rfl, rfl, rfl⟩

/-- A session bound to 00 00 with a task, over a block with pending events. -/
def hosted (t : Option Task) (waiting : Bool) (es : List Event) : Hosted :=
  ⟨some ⟨0x00, 0x00, false, t, [], waiting, 0⟩, start 0x00 0x00 false es, []⟩

/-- R221, R262: a session presents its task's request once; while it waits for the response it presents nothing. -/
theorem test_request_is_not_repeated :
    ((hosted (some (.register 2)) false []).act .advance).map Hosted.hostEvents = some [.reqRdcr 2] ∧
      ((hosted (some (.register 2)) true []).act .advance).map Hosted.hostEvents = some [] := by decide

/-- R272: a RESET between two requests of a task ends the task with the error `abandoned`; its events are withdrawn. -/
theorem test_open_session_abandons_task :
    ((hosted (some (.register 2)) true [.reqRdcr 2, .rxByte 0xAB]).act (.openSession 0x01 0x02 true)).map
        (fun h => (h.session, h.block.sched, h.returned)) =
      some (some ⟨0x01, 0x02, true, none, [], false, 0⟩, [.reset 0x01 0x02 true, .rxByte 0xAB],
        [.error .abandoned]) := rfl

/-- R220: the transport cannot present a request. -/
theorem test_transport_presents_no_request : ((hosted none false []).act (.transport .reqRecv)).isNone = true := rfl

/-- R212: the display string of status 0x02, from the response ERR(3, 0x0002). -/
theorem test_wrong_command_text : (hostErrorOf (.err 3 0x0002)).reasonText = some "Wrong command" := by rfl

/-- R229: two fragments, the first shorter than its sub-header, then the bytes of the second from offset 3 on. -/
theorem test_image_of_fragments : imageOf [[0x01, 0x02], [0x01, 0x02, 0x03, 0x99]] = [0x99] := by decide

/-- R229: after one fragment the capture reads on; after an ERR it returns the error. -/
theorem test_capture_reads :
    nextMove 0x00 0x00 (capturePicture []) [] = .request (.reqSend [0x95, 0x80]) ∧
      nextMove 0x00 0x00 (capturePicture []) [.sent, .data 0x8095 [1, 2, 3, 4]] = .request .reqRecv ∧
      nextMove 0x00 0x00 (capturePicture []) [.sent, .data 0x8095 [1, 2, 3, 4], .err 7 2] =
        .result (.error (.block .shortFrame 2)) := ⟨rfl, rfl, rfl⟩

/-- P1's notation (R89): its first lines, their events and what they give. -/
theorem test_program_notation_P1 :
    programEvents
          [.reset 0x00 0x00 false, .rdcr 2, .gives (.val 0x0001ABAA), .send [], .tx [0xAA, 0x01], .gives .sent] =
        [.reset 0x00 0x00 false, .reqRdcr 2, .reqSend [], .txAcc, .txAcc] ∧
      programResults [.rdcr 2, .gives (.val 0x0001ABAA), .tx [0xAA, 0x01], .gives .sent] =
        ([0xAA, 0x01], [.val 0x0001ABAA, .sent]) := by decide

/-! ### The invariant on the states above -/

theorem inv_reset : Inv State.reset := by
  exact ⟨⟨rfl, rfl⟩, by decide, fun _ => rfl, rfl, fun _ => rfl, fun _ => ⟨rfl, by decide, by decide⟩, nofun, nofun,
    nofun⟩

theorem inv_sending_first : Inv (sending [] 0 [.txAcc]) :=
  ⟨⟨by decide, by decide⟩, by decide, by decide, by decide, by decide, by decide,
    fun _ => ⟨[], by decide, by decide, by decide, by decide, by decide⟩, nofun, nofun⟩

theorem inv_sending_last : Inv (sending [] 7 [.txAcc]) :=
  ⟨⟨by decide, by decide⟩, by decide, by decide, by decide, by decide, by decide,
    fun _ => ⟨[], by decide, by decide, by decide, by decide, by decide⟩, nofun, nofun⟩

theorem inv_heading (t v0 v1 l0 l1 : Byte) (n : Nat) (hn : n < 5) (es : List Event) :
    Inv (heading t v0 v1 l0 l1 n es) := by
  have h : (heading t v0 v1 l0 l1 n es).rxcnt.toNat = n := by
    simp only [heading, BitVec.toNat_ofNat]
    omega
  refine ⟨⟨rfl, rfl⟩, by simp [heading, State.reset], fun _ => rfl, rfl, fun _ => rfl, ?_, ?_, ?_, ?_⟩
  · exact fun hd => absurd rfl hd
  · nofun
  · exact fun _ => ⟨by omega, by rw [h]; rfl⟩
  · nofun

theorem inv_receiving_first : Inv (receiving 3 [] false [.rxByte 0x80]) :=
  ⟨⟨by decide, by decide⟩, by decide, by decide, by decide, by decide, by decide, nofun,
    nofun, fun _ => ⟨by decide, by decide, by decide, [], by decide, by decide⟩⟩

theorem inv_receiving_last : Inv (receiving 3 [0xFF, 0xFF, 0x00] false [.rxByte 0x53]) :=
  ⟨⟨by decide, by decide⟩, by decide, by decide, by decide, by decide, by decide, nofun,
    nofun, fun _ => ⟨by decide, by decide, by decide, [0xFF, 0xFF, 0x00], by decide, by decide⟩⟩

theorem inv_receiving_empty : Inv (receiving 0 [] false [.rxByte 0x54]) :=
  ⟨⟨by decide, by decide⟩, by decide, by decide, by decide, by decide, by decide, nofun,
    nofun, fun _ => ⟨by decide, by decide, by decide, [], by decide, by decide⟩⟩

/-! ### Witnesses: each obligation's hypotheses met, at the boundaries of their ranges -/

theorem witness_DecodeOfEncodeGivesInstruction :
    (Instr.cf 3 0x00 0x00 [] 0x52).wellFormed = true ∧ (Instr.dataReply 0xFFFE []).wellFormed = true ∧
      (Instr.fbUnknown 0x06 []).wellFormed = true ∧ (Instr.fbUnknown 0xFF []).wellFormed = true ∧
      (Instr.send (long 65532)).wellFormed = true := by
  refine ⟨by decide, by decide, by decide, by decide, ?_⟩
  simp [Instr.wellFormed, Config.txMax, length_long]

theorem witness_EncodeOfDecodedGivesWire :
    decode (.bytes .cfCode [0x80, 0x80]) = .ok (.getVolume []) ∧ decode (.request .recv) = .ok .recv := by decide

theorem witness_ParseCommandInvertsEncode :
    ([] : List Byte).length ≤ 65532 ∧ (long 65532).length ≤ 65532 ∧
      parseCommand [0xAA, 0x01, 0x00, 0x03, 0x00, 0xFF, 0xFF, 0x54] = some (0xFF, 0xFF, []) ∧
      parseCommand [0xAA, 0x01, 0x00, 0x03, 0x00, 0xFF, 0xFF, 0x55] = none := by
  refine ⟨by decide, (length_long _).le, by decide, by decide⟩

theorem witness_EncodedFrameLayout :
    ([] : List Byte).length ≤ 65532 ∧ (long 65532).length ≤ 65532 ∧ 0 < [(0 : Byte)].length :=
  ⟨by decide, (length_long _).le, by decide⟩

theorem witness_EncodedFrameSumsToZero :
    Inv (sending [] 7 [.txAcc]) ∧ nextEvent (sending [] 7 [.txAcc]) = some (.txAcc, sending [] 7 []) ∧
      ∃ t, step (sending [] 7 [.txAcc]) = .next t ∧ t.phase = .idle :=
  ⟨inv_sending_last, rfl, _, rfl, rfl⟩

theorem witness_ChecksumEquivalentForms :
    ([0x80, 0x80].map (BitVec.toNat : Byte → Nat)).sum % 256 = 0 ∧ ([0x01, 0x02] : List Byte).Perm [0x02, 0x01] :=
  ⟨by decide, List.Perm.swap _ _ _⟩

theorem witness_PlacedWordRunsNext :
    decodeTableWord 24 0x0001AA = some (.cf 0 0 0 [] 0) ∧ decodeTableWord 24 0x0001AB = some (.rf 0) ∧
      decodeTableWord 16 0x0080 = some (.setVolume []) ∧ decodeTableWord 16 0x0000 = some (.dataReply 0 []) ∧
      decodeTableWord 24 0x06FFFF = some (.fbUnknown 0x06 []) ∧
      (step (State.reset.withFetchWord 16 0x0080) = exec (.setVolume []) State.reset) := by
  refine ⟨by decide, by decide, by decide, by decide, by decide, rfl⟩

theorem witness_SendLoadsFrame :
    State.reset.phase = .idle ∧ ([] : List Byte).length ≤ 65532 ∧ (long 65532).length ≤ 65532 ∧
      0 < ([] : List Byte).length + 8 := by
  refine ⟨rfl, by decide, (length_long _).le, by decide⟩

theorem witness_CommandLoadsItsFrame :
    (Instr.setVolume, (0x0080 : Half)) ∈ commandRows ∧ (Instr.getFwInfo, (0xF858 : Half)) ∈ commandRows ∧
      State.reset.phase = .idle ∧ ([] : List Byte).length ≤ 65530 ∧
      (long 65530).length ≤ 65530 := by
  refine ⟨by simp [commandRows], by simp [commandRows], rfl, by decide, (length_long _).le⟩

theorem witness_OversizePayloadRefused :
    State.reset.phase = .idle ∧ 65532 < (long 65533).length ∧
      (Instr.setVolume, (0x0080 : Half)) ∈ commandRows ∧ 65530 < (long 65531).length := by
  refine ⟨rfl, ?_, by simp [commandRows], ?_⟩ <;> rw [length_long] <;> decide

theorem witness_PayloadIsOpaque :
    nextEvent (start 0x00 0x00 false [.reqSend []]) = some (.reqSend [], start 0x00 0x00 false []) ∧
      nextEvent (start 0x00 0x00 false [.reqSend [0xFF, 0xFF]]) =
        some (.reqSend [0xFF, 0xFF], start 0x00 0x00 false []) ∧
      nextEvent (start 0x00 0x00 false [.reqSend [0x51]]) =
        some (.reqSend [0x51], start 0x00 0x00 false []) ∧
      nextEvent (start 0x00 0x00 false [.reqSend (long 65532)]) =
        some (.reqSend (long 65532), start 0x00 0x00 false []) ∧
      (long 65532).length ≤ 65532 ∧
      (start 0x00 0x00 false (.reqSend [] :: (List.replicate 8 .txAcc ++ []))).phase = .idle ∧
      (start 0x00 0x00 false (.reqSend [] :: (List.replicate 8 .txAcc ++ []))).gaddr = 0x00 ∧
      (start 0x00 0x00 false (.reqSend [] :: (List.replicate 8 .txAcc ++ []))).daddr = 0x00 :=
  ⟨rfl, rfl, rfl, rfl, (length_long _).le, rfl, rfl, rfl⟩

theorem witness_FrameByteTransmitted :
    (sending [] 0 []).phase = .tx ∧ (frameBytes 3 0 0 [] 0x52)[(sending [] 0 []).txcnt.toNat]? = some 0xAA ∧
      (sending [] 0 []).txcnt + 1 ≠ (sending [] 0 []).txlen ∧
      (frameBytes 3 0 0 [] 0x52)[(sending [] 7 []).txcnt.toNat]? = some 0x52 ∧
      (sending [] 7 []).txcnt + 1 = (sending [] 7 []).txlen := by decide

theorem witness_TransferPushesBufferByte :
    Inv (sending [] 0 [.txAcc]) ∧ nextEvent (sending [] 0 [.txAcc]) = some (.txAcc, sending [] 0 []) ∧
      Inv (sending [] 7 [.txAcc]) ∧ nextEvent (sending [] 7 [.txAcc]) = some (.txAcc, sending [] 7 []) :=
  ⟨inv_sending_first, rfl, inv_sending_last, rfl⟩

theorem witness_SendRunTransmitsFrame :
    (start 0x00 0x00 false (.reqSend [] :: (List.replicate 8 .txAcc ++ []))).phase = .idle ∧
      ([] : List Byte).length ≤ 65532 ∧
      (start 0x00 0x00 false (.reqSend [] :: (List.replicate 8 .txAcc ++ []))).sched =
        .reqSend [] :: (List.replicate (([] : List Byte).length + 8) .txAcc ++ []) := by
  refine ⟨rfl, by decide, rfl⟩

theorem witness_RecvRequestStep :
    State.reset.phase = .idle ∧ State.reset.daddr = 0x00 ∧ State.reset.rxcnt = 0 ∧
      (start 0x00 0x01 false []).phase = .idle ∧ (start 0x00 0x01 false []).daddr ≠ 0x00 ∧
      (start 0x00 0x01 false []).rxcnt = 0 ∧ (start 0x00 0xFF false []).daddr ≠ 0x00 := by decide

theorem witness_ReplyHeaderAccepted :
    (heading 0xAB 0x01 0x00 0x03 0x00 5 []).phase = .rxhdr ∧
      (heading 0xAB 0x01 0x00 0x03 0x00 5 []).rxcnt.toNat = 5 := by decide

/-- The first and the fourth header byte, and the fifth with a wrong tag, a wrong device class, and neither. -/
theorem witness_HeaderByteStep :
    (∀ n < 5, ∀ (t v0 : Byte) (b : Byte), Inv (heading t v0 0x00 0x03 0x00 n [.rxByte b]) ∧
      (heading t v0 0x00 0x03 0x00 n [.rxByte b]).phase = .rxhdr ∧
      nextEvent (heading t v0 0x00 0x03 0x00 n [.rxByte b]) = some (.rxByte b, heading t v0 0x00 0x03 0x00 n [])) ∧
      (heading 0xAB 0x01 0x00 0x03 0x00 0 []).rxcnt.toNat < 4 ∧
      (heading 0xAB 0x01 0x00 0x03 0x00 3 []).rxcnt.toNat < 4 ∧
      (heading 0xAA 0x02 0x00 0x03 0x00 4 []).rxcnt.toNat = 4 ∧ (0xAA : Byte) ≠ 0xAB ∧
      le16 0x02 0x00 ≠ 0x0001 ∧ le16 0x01 0x00 = 0x0001 :=
  ⟨fun n hn t v0 b => ⟨inv_heading t v0 0x00 0x03 0x00 n hn [.rxByte b], rfl, rfl⟩, by decide⟩

theorem witness_BodyByteStored :
    (receiving 3 [] false [.rxByte 0x80]).phase = .rxbody ∧
      5 ≤ (receiving 3 [] false [.rxByte 0x80]).rxcnt.toNat ∧
      (receiving 3 [] false [.rxByte 0x80]).rxcnt.toNat < 5 + (receiving 3 [] false [.rxByte 0x80]).rxlen.toNat ∧
      nextEvent (receiving 3 [] false [.rxByte 0x80]) = some (.rxByte 0x80, receiving 3 [] false []) ∧
      (receiving 3 [0x80, 0x80] false []).rxcnt.toNat + 1 = 5 + (receiving 3 [0x80, 0x80] false []).rxlen.toNat := by
  refine ⟨rfl, by decide, by decide, rfl, by decide⟩

theorem witness_LastByteEndsReply :
    Inv (receiving 3 [0xFF, 0xFF, 0x00] false [.rxByte 0x53]) ∧
      (receiving 3 [0xFF, 0xFF, 0x00] false [.rxByte 0x53]).phase = .rxbody ∧
      (receiving 3 [0xFF, 0xFF, 0x00] false [.rxByte 0x53]).rxcnt.toNat = 5 + 3 ∧
      nextEvent (receiving 3 [0xFF, 0xFF, 0x00] false [.rxByte 0x53]) =
        some (.rxByte 0x53, receiving 3 [0xFF, 0xFF, 0x00] false []) ∧
      Inv (receiving 0 [] false [.rxByte 0x54]) ∧
      (receiving 0 [] false [.rxByte 0x54]).rxcnt.toNat = 5 + (receiving 0 [] false [.rxByte 0x54]).rxlen.toNat :=
  ⟨inv_receiving_last, rfl, by decide, rfl, inv_receiving_empty, by decide⟩

theorem witness_RecvRunMatchesDecodeReply :
    decodeReply [0xAB, 0x01, 0x00, 0x03, 0x00, 0x80, 0x80, 0x05, 0x4C] true = some (.ok 0x8080 [0x05], 9) ∧
      decodeReply [0xAA, 0x01, 0x00, 0x05, 0x00] false = some (.badHeader 0xAA, 5) ∧
      (start 0x00 0x00 true
          (.reqRecv :: ([0xAB, 0x01, 0x00, 0x03, 0x00, 0x80, 0x80, 0x05, 0x4C].map .rxByte ++ []))).phase = .idle ∧
      (start 0x00 0x00 true []).daddr = 0x00 := by
  refine ⟨by decide, by decide, rfl, rfl⟩

/-- A complete reply of length 3 that passes the validator: on by a zero sum, or off whatever the sum. -/
theorem witness_DataReplyDelivered :
    (0xFFFE : Half) ≠ 0xFFFF ∧ (received 3 [0x80, 0x80, 0x05] true 0).phase = .rxbody ∧
      (received 3 [0x80, 0x80, 0x05] true 0).rxcnt.toNat = (received 3 [0x80, 0x80, 0x05] true 0).rxlen.toNat + 6 ∧
      (received 3 [0x80, 0x80, 0x05] true 0).rxsum = 0 ∧ (received 3 [0x80, 0x80, 0x05] false 1).rxck = false := by
  decide

theorem witness_FeedbackOkDelivered :
    (received 3 [0xFF, 0xFF, 0x00] true 0).phase = .rxbody ∧
      (received 3 [0xFF, 0xFF, 0x00] true 0).rxcnt.toNat = (received 3 [0xFF, 0xFF, 0x00] true 0).rxlen.toNat + 6 ∧
      (received 3 [0xFF, 0xFF, 0x00] true 0).rxsum = 0 := by decide

theorem witness_FeedbackRejectsCommand :
    (received 3 [0xFF, 0xFF, 0x05] true 0).phase = .rxbody ∧
      (received 3 [0xFF, 0xFF, 0x05] true 0).rxcnt.toNat = (received 3 [0xFF, 0xFF, 0x05] true 0).rxlen.toNat + 6 ∧
      (received 3 [0xFF, 0xFF, 0x05] true 0).rxsum = 0 ∧ (0x01 : Byte) ≠ 0x00 ∧ 6 ≤ (0x06 : Byte).toNat ∧
      (Instr.fbChecksumError, (0x01 : Byte)) ∈ rejectionRows ∧
      (Instr.fbAddressError, (0x05 : Byte)) ∈ rejectionRows := by
  refine ⟨by decide, by decide, by decide, by decide, by decide, by simp [rejectionRows], by simp [rejectionRows]⟩

theorem witness_ShortFrameRaised :
    (received 0 [] true 0).phase = .rxbody ∧
      (received 0 [] true 0).rxcnt.toNat = (received 0 [] true 0).rxlen.toNat + 6 ∧
      (received 0 [] true 0).rxsum = 0 ∧ (received 0 [] true 0).rxlen.toNat < 2 ∧
      (received 1 [0x80] true 0).rxlen.toNat < 2 ∧
      (received 2 [0xFF, 0xFF] true 0).rxcnt.toNat = (received 2 [0xFF, 0xFF] true 0).rxlen.toNat + 6 := by decide

theorem witness_ChecksumMismatchComesFirst :
    (received 1 [0x80] true 1).phase = .rxbody ∧
      (received 1 [0x80] true 1).rxcnt.toNat = (received 1 [0x80] true 1).rxlen.toNat + 6 ∧
      (received 1 [0x80] true 1).rxck = true ∧ (received 1 [0x80] true 1).rxsum ≠ 0 ∧
      (received 1 [0x80] true 1).rxlen.toNat < 2 ∧ (Instr.fbExecError, (0x03 : Byte)) ∈ rejectionRows := by
  refine ⟨by decide, by decide, by decide, by decide, by decide, by simp [rejectionRows]⟩

theorem witness_ChecksumByteIgnoredWhenOff :
    Inv (receiving 3 [0xFF, 0xFF, 0x00] false [.rxByte 0x53]) ∧
      (receiving 3 [0xFF, 0xFF, 0x00] false [.rxByte 0x53]).phase = .rxbody ∧
      (receiving 3 [0xFF, 0xFF, 0x00] false [.rxByte 0x53]).rxcnt.toNat = 5 + 3 ∧
      (receiving 3 [0xFF, 0xFF, 0x00] false [.rxByte 0x53]).rxck = false ∧
      (receiving 3 [0xFF, 0xFF, 0x00] false [.rxByte 0x53]).sched = .rxByte 0x53 :: [] :=
  ⟨inv_receiving_last, rfl, by decide, rfl, rfl⟩

/-- Every clause of RdcrReadsRegister holds of its own number; 9 is the first above the registers. -/
theorem witness_RdcrReadsRegister : State.reset.phase = .idle ∧ 8 < 9 := ⟨rfl, by decide⟩

theorem witness_RaiseWritesErrorRegisters :
    (Error.noReply, (8 : BitVec 4), false) ∈
      ([(Error.badHeader, 1, true), (.badDeviceId, 2, true), (.commandError, 3, false), (.transportError, 4, true),
        (.argumentError, 5, false), (.checksumMismatch, 6, true), (.shortFrame, 7, true), (.noReply, 8, false)] :
        List (Error × BitVec 4 × Bool)) := by decide

theorem witness_TransportFailureEndsOperation :
    nextEvent (sending [] 0 [.xfail .timeout]) = some (.xfail .timeout, sending [] 0 []) ∧
      nextEvent (heading 0 0 0 0 0 0 [.xfail .disconnect]) = some (.xfail .disconnect, heading 0 0 0 0 0 0 []) ∧
      nextEvent (receiving 0 [] false [.xfail .closed]) = some (.xfail .closed, receiving 0 [] false []) :=
  ⟨rfl, rfl, rfl⟩

/-- A step that sets DESYNC and one that leaves it. -/
theorem witness_DesyncSetByFiveErrors :
    nextEvent (sending [] 0 [.xfail .timeout]) = some (.xfail .timeout, sending [] 0 []) ∧
      (Event.xfail .timeout).isReset = false ∧
      after (step (sending [] 0 [.xfail .timeout])) (fun t => (t.desync, t.responses)) = some (true, [.err 4 1]) ∧
      after (step (sending [] 0 [.txAcc])) (fun t => t.desync) = some false := by
  refine ⟨rfl, rfl, by decide, by decide⟩

theorem witness_DesyncDoesNotSteer :
    nextEvent (sending [] 0 [.txAcc]) = some (.txAcc, sending [] 0 []) ∧ Event.isReset .txAcc = false ∧
      (∀ n, Event.txAcc ≠ .reqRdcr n) ∧ (sending [] 0 [.txAcc]).desync = false ∧
      ∃ t, step (sending [] 0 [.txAcc]) = .next t :=
  ⟨rfl, rfl, nofun, rfl, _, rfl⟩

/-- The hypotheses of each clause: a listed and an unlisted payload, a frame in TXBUF, a header, and regions decoded by
their status, by their code, and as a frame without a code. -/
theorem witness_StepRunsDecodedInstruction :
    (nextEvent (start 0 0 false [.reqSend [0x80, 0x80]]) = some (.reqSend [0x80, 0x80], start 0 0 false []) ∧
        decode (.bytes .cfCode [0x80, 0x80]) = .ok (.getVolume [])) ∧
      (nextEvent (start 0 0 false [.reqSend []]) = some (.reqSend [], start 0 0 false []) ∧
        ∀ j, decode (.bytes .cfCode []) ≠ .ok j) ∧
      nextEvent (start 0 0 false [.reqRecv]) = some (.reqRecv, start 0 0 false []) ∧
      nextEvent (start 0 0 false [.reqRdcr 9]) = some (.reqRdcr 9, start 0 0 false []) ∧
      nextEvent (start 0 0 false [.reset 1 2 true]) = some (.reset 1 2 true, start 0 0 false []) ∧
      (nextEvent (sending [] 0 [.txAcc]) = some (.txAcc, sending [] 0 []) ∧
        Memory.readAll (sending [] 0 [.txAcc]).txbuf 0 (sending [] 0 [.txAcc]).txlen.toNat =
          some [0xAA, 0x01, 0x00, 0x03, 0x00, 0x00, 0x00, 0x52] ∧
        decode (.bytes .cf [0xAA, 0x01, 0x00, 0x03, 0x00, 0x00, 0x00, 0x52]) = .ok (.cf 3 0 0 [] 0x52)) ∧
      (nextEvent (heading 0xAB 0x01 0x00 0x03 0x00 4 [.rxByte 0x00]) =
          some (.rxByte 0x00, heading 0xAB 0x01 0x00 0x03 0x00 4 []) ∧
        (heading 0xAB 0x01 0x00 0x03 0x00 4 [.rxByte 0x00]).rxcnt.toNat = 4 ∧
        decode (.bytes .rf (⟨0xAB, 0x01, 0x00, 0x03, 0x00⟩ : RxHdr).bytes) = .ok (.rf 3)) ∧
      (nextEvent (receiving 3 [0xFF, 0xFF, 0x00] false [.rxByte 0x53]) =
          some (.rxByte 0x53, receiving 3 [0xFF, 0xFF, 0x00] false []) ∧
        (receiving 3 [0xFF, 0xFF, 0x00] false [.rxByte 0x53]).rxcnt.toNat = 5 + 3 ∧
        Memory.readAll (receiving 3 [0xFF, 0xFF, 0x00] false [.rxByte 0x53]).rxbuf 0 3 = some [0xFF, 0xFF, 0x00] ∧
        decode (.bytes .rfFeedback [0xFF, 0xFF, 0x00]) = .ok (.fbOk [])) ∧
      ((∀ j, decode (.bytes .rfFeedback [0xFF, 0xFF]) ≠ .ok j) ∧
        decode (.bytes .rfCode [0xFF, 0xFF]) = .ok (.feedback [])) ∧
      ∀ j, decode (.bytes .rfCode []) ≠ .ok j :=
  ⟨⟨rfl, by decide⟩, ⟨rfl, nofun⟩, rfl, rfl, rfl, ⟨rfl, by decide, by decide⟩, ⟨rfl, by decide, by decide⟩,
    ⟨rfl, by decide, by decide, by decide⟩, ⟨nofun, by decide⟩, nofun⟩

theorem witness_InvKeptByEveryStep :
    Inv (sending [] 7 [.txAcc]) ∧ (∃ t, step (sending [] 7 [.txAcc]) = .next t) ∧
      Inv (receiving 3 [] false [.rxByte 0x80]) ∧ ∃ t, step (receiving 3 [] false [.rxByte 0x80]) = .next t :=
  ⟨inv_sending_last, ⟨_, rfl⟩, inv_receiving_first, _, rfl⟩

theorem witness_NoFaultFromInvariant : Inv State.reset ∧ Inv (sending [] 0 [.txAcc]) :=
  ⟨inv_reset, inv_sending_first⟩

theorem witness_CanonicalFormKept :
    canonical (start 0 0 false [.reqSend []]) ∧ ∃ t, step (start 0 0 false [.reqSend []]) = .next t :=
  ⟨⟨by decide, by decide⟩, _, rfl⟩

theorem witness_DisabledEventsTakeNoStep :
    (∃ t, step (sending [] 0 [.rxByte 0xAB, .txAcc]) = .next t) ∧
      (∀ e ∈ (start 0 0 false [.txAcc]).sched, enabled (start 0 0 false [.txAcc]).phase e = false) ∧
      (sending [] 0 []).phase ≠ .idle ∧ (Instr.getVolume, (0x8080 : Half)) ∈ commandRows := by
  refine ⟨⟨_, rfl⟩, by decide, by decide, by simp [commandRows]⟩

/-- A step inside an operation, from RXHDR to RXBODY, and out of one. -/
theorem witness_OperationEndsWithOneResponse :
    nextEvent (sending [] 0 [.txAcc]) = some (.txAcc, sending [] 0 []) ∧ Event.isReset .txAcc = false ∧
      (sending [] 0 [.txAcc]).phase ≠ .idle ∧ after (step (sending [] 0 [.txAcc])) (fun t => t.phase) = some .tx ∧
      after (step (heading 0xAB 0x01 0x00 0x03 0x00 4 [.rxByte 0x00])) (fun t => t.phase) = some .rxbody ∧
      after (step (sending [] 7 [.txAcc])) (fun t => t.phase) = some .idle := by
  refine ⟨rfl, rfl, by decide, by decide, by decide, by decide⟩

theorem witness_ConfigurationWrittenByResetOnly :
    nextEvent (start 0 0 false [.reqRecv]) = some (.reqRecv, start 0 0 false []) ∧
      (∃ t, step (start 0 0 false [.reqRecv]) = .next t) ∧ Event.isReset .reqRecv = false ∧
      nextEvent (start 0 0 false [.reset 1 2 true]) = some (.reset 1 2 true, start 0 0 false []) ∧
      ∃ t, step (start 0 0 false [.reset 1 2 true]) = .next t :=
  ⟨rfl, ⟨_, rfl⟩, rfl, rfl, _, rfl⟩

theorem witness_StreamsGrowByOneByte :
    nextEvent (receiving 3 [] false [.rxByte 0x80]) = some (.rxByte 0x80, receiving 3 [] false []) ∧
      ∃ t, step (receiving 3 [] false [.rxByte 0x80]) = .next t := ⟨rfl, _, rfl⟩

theorem witness_NoPullUnlessDirect :
    Inv (start 0 1 false [.reqRecv]) ∧ (start 0 1 false [.reqRecv]).daddr ≠ 0x00 ∧
      ∃ t, step (start 0 1 false [.reqRecv]) = .next t := by
  exact ⟨⟨⟨rfl, rfl⟩, by decide, fun _ => rfl, rfl, fun _ => rfl, fun _ => ⟨rfl, by decide, by decide⟩, nofun, nofun,
    nofun⟩, by decide, _, rfl⟩

theorem witness_FrameInProgressIsLatched :
    nextEvent (sending [] 0 [.txAcc]) = some (.txAcc, sending [] 0 []) ∧ Event.isReset .txAcc = false ∧
      (sending [] 0 [.txAcc]).phase = .tx ∧ ∃ t, step (sending [] 0 [.txAcc]) = .next t :=
  ⟨rfl, rfl, rfl, _, rfl⟩

theorem witness_ReplyRegistersWrittenByBytesOnly :
    nextEvent (start 0 0 false [.reqRecv]) = some (.reqRecv, start 0 0 false []) ∧ Event.isReset .reqRecv = false ∧
      (∀ b, Event.reqRecv ≠ .rxByte b) ∧ ∃ t, step (start 0 0 false [.reqRecv]) = .next t :=
  ⟨rfl, rfl, nofun, _, rfl⟩

/-- Each phase of StatusRegisterBits. -/
theorem witness_StatusRegisterBits :
    State.reset.phase = .idle ∧ (sending [] 0 []).phase = .tx ∧ (heading 0 0 0 0 0 0 []).phase = .rxhdr ∧
      (receiving 0 [] false []).phase = .rxbody := ⟨rfl, rfl, rfl, rfl⟩

/-- 64 fragments of exactly the sub-header, and a failure as the last of 64 responses. -/
theorem witness_PictureLengthIsSumOfFragments :
    (List.replicate 64 ((0x8095 : Half), ([1, 2, 3] : List Byte))).length = 64 ∧
      Response.err 7 2 ∈ (List.replicate 63 (Response.data 0x8095 []) ++ [Response.err 7 2]).take 64 ∧
      ∀ c q, Response.err 7 2 ≠ .data c q :=
  ⟨by decide, by decide, nofun⟩

/-- No fragment, and one short of all. -/
theorem witness_CaptureStopsAtFirstError :
    ([] : List (Half × List Byte)).length < 64 ∧
      (List.replicate 63 ((0x8095 : Half), ([1, 2, 3] : List Byte))).length < 64 := by decide

theorem witness_SessionOperationInOrder :
    (setVolume 8).argumentsValid = true ∧ (setVolume 8).kind = .one .raw ∧ (0x00 : Byte) = 0x00 ∧
      (0xFF : Byte) ≠ 0x00 := ⟨rfl, rfl, rfl, by decide⟩

/-- Both sides of each bound. -/
theorem witness_FailedCheckPresentsNoRequest :
    ((-1 : Int) < 0 ∧ (8 : Int) < 9 ∧ (1 : Int) < 2) ∧ ((0 : Int) ≤ 0 ∧ (0 : Int) ≤ 8) ∧ (0 : Int) ≤ 8 ∧ (8 : Int) ≤ 8 ∧
      (0 : Int) ≤ 1 ∧ (1 : Int) ≤ 1 ∧
      (hosted (some (.command (.setVolume 9))) false []).session =
        some ⟨0x00, 0x00, false, some (.command (.setVolume 9)), [], false, 0⟩ ∧
      (hosted (some (.command (.setStandby (-1)))) false []).session =
        some ⟨0x00, 0x00, false, some (.command (.setStandby (-1))), [], false, 0⟩ := by
  refine ⟨by decide, by decide, by decide, by decide, by decide, by decide, rfl, rfl⟩

/-- The session goes on, and an action of each other party. -/
theorem witness_SessionIsOnlyIssuer :
    (∃ h', (hosted (some (.register 2)) false []).act .advance = some h') ∧
      (∀ g d k, HostedAction.advance ≠ .openSession g d k) ∧
      (∃ h', (hosted none false []).act (.call (.register 2)) = some h') ∧
      (∃ h', (hosted none false []).act (.transport .txAcc) = some h') ∧
      (∃ h', (hosted none false []).act .reopenTransport = some h') ∧
      ∃ h', (hosted none false [.reqRdcr 2]).act .blockStep = some h' :=
  ⟨⟨_, rfl⟩, nofun, ⟨_, rfl⟩, ⟨_, rfl⟩, ⟨_, rfl⟩, _, rfl⟩

/-- A task in progress, and none. -/
theorem witness_OpenedSessionResetsBlock :
    (hosted (some (.register 2)) false []).session = some ⟨0, 0, false, some (.register 2), [], false, 0⟩ ∧
      ∀ (τ : Session) (u : Task), (hosted none false []).session = some τ → τ.task ≠ some u := by
  refine ⟨rfl, ?_⟩
  rintro τ u ⟨⟩
  nofun

theorem witness_DeviceCommandPayloads :
    (Instr.setVolume, (0x0080 : Half)) ∈ commandRows ∧ (Instr.getFwInfo, (0xF858 : Half)) ∈ commandRows := by
  simp [commandRows]

end Sys2Proof.Tests
end

section
/-! PROOFS. The command frame of `Encode` (spec/30_encoding.md). -/

namespace Sys2Proof

/-- The length field of a command frame; a payload that fits `Config.txMax` does not wrap it. -/
def lengthField (p : List Byte) : Half := BitVec.ofNat 16 (p.length + Config.lenBias)

theorem toNat_lengthField {p : List Byte} (hp : p.length ≤ Config.txMax) :
    (lengthField p).toNat = p.length + 3 := by
  simp only [Config.txMax] at hp
  simp only [lengthField, Config.lenBias, BitVec.toNat_ofNat]
  omega

/-- The seven bytes before the payload (R71). -/
def frameHead (g d : Byte) (p : List Byte) : List Byte :=
  [0xAA, 0x01, 0x00, lo8 (lengthField p), hi8 (lengthField p), g, d]

@[simp] theorem length_frameHead (g d : Byte) (p : List Byte) : (frameHead g d p).length = 7 := rfl

theorem frameBody_eq_frameHead_append (g d : Byte) (p : List Byte) : frameBody g d p = frameHead g d p ++ p := by
  simp [frameBody, frameHead, lengthField, Config.tagTx]

theorem encodeFrame_eq_frameHead_append (g d : Byte) (p : List Byte) :
    encodeFrame g d p = frameHead g d p ++ (p ++ [checksum (frameBody g d p)]) := by
  rw [encodeFrame, frameBody_eq_frameHead_append, List.append_assoc]

theorem take_seven_encodeFrame (g d : Byte) (p : List Byte) : (encodeFrame g d p).take 7 = frameHead g d p := by
  rw [encodeFrame_eq_frameHead_append, List.take_left' (length_frameHead g d p)]

theorem getElem?_encodeFrame_payload (g d : Byte) (p : List Byte) {i : Nat} (hi : i < p.length) :
    (encodeFrame g d p)[7 + i]? = p[i]? := by
  rw [encodeFrame_eq_frameHead_append, List.getElem?_append_right (by simp), List.getElem?_append_left (by simpa)]
  simp

theorem take_body_encodeFrame (g d : Byte) (p : List Byte) :
    (encodeFrame g d p).take (7 + p.length) = frameBody g d p :=
  List.take_left' (by simp [Nat.add_comm])

theorem getElem?_encodeFrame_checksum (g d : Byte) (p : List Byte) :
    (encodeFrame g d p)[7 + p.length]? = some (checksum (frameBody g d p)) := by
  rw [encodeFrame, List.getElem?_append_right (by simp [Nat.add_comm])]
  simp [Nat.add_comm]

/-- Settles O4: the frame is its head, the payload and the checksum of both, and the length field does not wrap. -/
theorem encodedFrameLayout : Obligations.EncodedFrameLayout := by
  intro g d p hp
  have hlen : (lengthField p).toNat = p.length + 3 := toNat_lengthField hp
  refine ⟨lo8 (lengthField p), hi8 (lengthField p), length_encodeFrame g d p, take_seven_encodeFrame g d p,
    ?low, ?high, ?field, fun i hi => getElem?_encodeFrame_payload g d p hi, ?sum⟩
  case low => rw [toNat_lo8, hlen]
  case high => rw [toNat_hi8, hlen]
  case field => rw [le16_lo8_hi8, hlen]
  case sum => rw [take_body_encodeFrame, getElem?_encodeFrame_checksum]

end Sys2Proof
end

section
/-! PROOFS. The zero-sum property and the opaque payload of `Encode`, and the SEND that transmits its frame
(spec/40_encode.md). -/

namespace Sys2Proof

theorem sum8_cons (b : Byte) (s : List Byte) : sum8 (b :: s) = b + sum8 s := by
  apply BitVec.eq_of_toNat_eq
  rw [toNat_sum8, BitVec.toNat_add, toNat_sum8]
  simp [byteSum]

/-- The running sum of a frame's bytes, one transfer further (R103). -/
theorem sum8_take_succ {f : List Byte} {n : Nat} {b : Byte} (hb : f[n]? = some b) :
    sum8 (f.take (n + 1)) = sum8 (f.take n) + b := by
  rw [List.take_add_one, hb, Option.toList_some, sum8_append_singleton]

end Sys2Proof

namespace Sys2Proof.Machine

/-! ### The step of a SEND request -/

theorem acceptSend_of_fits {p : List Byte} {s : State} (hp : s.phase = .idle) (hl : p.length ≤ Config.txMax) :
    acceptSend p s = .next (startFrame p (clearError s)) := by
  simp only [acceptSend, hp]
  exact if_neg (Nat.not_lt.mpr hl)

/-- The block looks at nothing in the payload: the command row it may name runs as SEND does (R107). -/
theorem step_reqSend {s s1 : State} {p : List Byte} (he : nextEvent s = some (.reqSend p, s1)) :
    step s = acceptSend p s1 := by
  simp only [step, he, fetch, exec_instrOfPayload]

theorem phase_idle_of_nextEvent_reqSend {s s1 : State} {p : List Byte} (he : nextEvent s = some (.reqSend p, s1)) :
    s.phase = .idle := by
  obtain ⟨hen, -⟩ := nextEvent_some he
  simpa [enabled] using hen

/-- What a started frame makes of TXBUF (R42, R105). -/
theorem read_startFrame_txbuf (p : List Byte) (s : State) (a : Nat) :
    Memory.read (startFrame p s).txbuf a =
      if a < p.length + 8 then (encodeFrame s.gaddr s.daddr p)[a]? else Memory.read s.txbuf a := by
  simp [read_writeAll]

theorem toNat_startFrame_txlen {p : List Byte} (hl : p.length ≤ Config.txMax) (s : State) :
    (startFrame p s).txlen.toNat = p.length + 8 := by
  simp only [Config.txMax] at hl
  simp only [startFrame_txlen, BitVec.toNat_ofNat]
  omega

theorem txFrame_startFrame {p : List Byte} (hl : p.length ≤ Config.txMax) (s : State) :
    txFrame (startFrame p s) = some (encodeFrame s.gaddr s.daddr p) := by
  rw [txFrame, toNat_startFrame_txlen hl, ← length_encodeFrame s.gaddr s.daddr p, startFrame_txbuf, readAll_writeAll]

/-! ### The transfer of a frame's bytes -/

theorem transmitting_of_inv {s : State} (h : Inv s) (hp : s.phase = .tx) : transmitting s := by
  obtain ⟨-, -, -, -, -, -, htx, -, -⟩ := h
  exact htx hp

/-- What pushing a byte string leaves, a byte at a time (`pushBytes_cons`). -/
def pushBytes (bs : List Byte) (s : State) : State :=
  { s with
    txStream := s.txStream ++ bs
    txsum := s.txsum + sum8 bs
    txcnt := s.txcnt + BitVec.ofNat 17 bs.length }

@[simp] theorem pushBytes_nil (s : State) : pushBytes [] s = s := by
  simp [pushBytes]

theorem pushBytes_cons (b : Byte) (bs : List Byte) (s : State) :
    pushBytes (b :: bs) s = pushBytes bs (pushByte b s) := by
  simp [pushBytes, sum8_cons, BitVec.add_assoc, BitVec.ofNat_add, Nat.add_comm]

/-- A TXACC transfers a byte of the frame in TXBUF (R105, R168). -/
theorem step_txAcc {s s1 : State} {g d : Byte} {p : List Byte} (he : nextEvent s = some (.txAcc, s1))
    (hf : txFrame s1 = some (encodeFrame g d p)) : step s = transmit (encodeFrame g d p) s1 := by
  rw [encodeFrame_eq_frameBytes] at hf ⊢
  simp only [step, he, fetch, fetchFrame, hf, decode, decodeFrame_frameBytes]
  rfl

theorem run_succ_of_step {s t : State} (h : step s = .next t) (n : Nat) :
    Host.Core.run core (n + 1) s = Host.Core.run core n t := by
  simp only [Host.Core.run, core, h]

/-- `s` is transmitting the frame of `p`, and `bs` are its bytes that are still to be pushed (R24, R25). -/
structure StillToPush (g d : Byte) (p bs : List Byte) (s : State) : Prop where
  phase : s.phase = .tx
  frame : txFrame s = some (encodeFrame g d p)
  length : s.txlen.toNat = p.length + 8
  rest : (encodeFrame g d p).drop s.txcnt.toNat = bs

section
variable {g d b : Byte} {p bs : List Byte} {s : State}

theorem stillToPush_startFrame (hl : p.length ≤ Config.txMax) (s : State) :
    StillToPush s.gaddr s.daddr p (encodeFrame s.gaddr s.daddr p) (startFrame p s) where
  phase := rfl
  frame := txFrame_startFrame hl s
  length := toNat_startFrame_txlen hl s
  rest := rfl

theorem StillToPush.withSched (h : StillToPush g d p bs s) (es : List Event) :
    StillToPush g d p bs { s with sched := es } where
  phase := h.phase
  frame := h.frame
  length := h.length
  rest := h.rest

theorem StillToPush.txcnt_add (h : StillToPush g d p (b :: bs) s) :
    s.txcnt.toNat + (bs.length + 1) = s.txlen.toNat := by
  have hlen := congrArg List.length h.rest
  rw [List.length_drop, length_encodeFrame, List.length_cons] at hlen
  rw [h.length]
  omega

theorem StillToPush.toNat_txcnt_succ (h : StillToPush g d p (b :: bs) s) :
    (s.txcnt + 1).toNat = s.txcnt.toNat + 1 := by
  have hlen := h.txcnt_add
  bv_omega

theorem StillToPush.push (h : StillToPush g d p (b :: bs) s) : StillToPush g d p bs (pushByte b s) where
  phase := h.phase
  frame := h.frame
  length := h.length
  rest := by
    rw [pushByte_txcnt, h.toNat_txcnt_succ, ← List.drop_drop, h.rest, List.drop_one, List.tail_cons]

theorem StillToPush.last_iff (h : StillToPush g d p (b :: bs) s) : s.txcnt + 1 = s.txlen ↔ bs = [] := by
  have hlen := h.txcnt_add
  rw [← BitVec.toNat_inj, h.toNat_txcnt_succ, ← List.length_eq_zero_iff]
  omega

/-- A byte of the frame is pushed, and the last one ends the SEND (R105, R168). -/
theorem StillToPush.transmit_eq (h : StillToPush g d p (b :: bs) s) :
    transmit (encodeFrame g d p) s =
      .next (if bs = [] then endOperation .sent (pushByte b s) else pushByte b s) := by
  have hb : (encodeFrame g d p)[s.txcnt.toNat]? = some b := by
    rw [← Nat.add_zero s.txcnt.toNat, ← List.getElem?_drop, h.rest, List.getElem?_cons_zero]
  simp only [transmit, h.phase, hb, pushByte_txcnt, pushByte_txlen, h.last_iff]

/-- A TXACC for each byte that is left pushes them all and ends the SEND (R108, R168). -/
theorem run_of_stillToPush {es : List Event} (h : StillToPush g d p bs s) (hbs : bs ≠ [])
    (hs : s.sched = List.replicate bs.length .txAcc ++ es) :
    Host.Core.run core bs.length s = .next (endOperation .sent (pushBytes bs { s with sched := es })) := by
  induction bs generalizing s with
  | nil => exact absurd rfl hbs
  | cons b bs ih =>
    have he := nextEvent_head hs (by rw [h.phase]; rfl)
    have hstep := (step_txAcc he h.frame).trans (h.withSched _).transmit_eq
    rw [List.length_cons, run_succ_of_step hstep, pushBytes_cons]
    by_cases hlast : bs = []
    · subst hlast
      rw [if_pos rfl, pushBytes_nil]
      rfl
    · rw [if_neg hlast]
      exact ih (h.withSched _).push hlast rfl

end

/-- A whole SEND without a transport failure (R105, R111). -/
theorem run_send {p : List Byte} {s : State} {es : List Event} (hp : s.phase = .idle)
    (hl : p.length ≤ Config.txMax)
    (hs : s.sched = .reqSend p :: (List.replicate (p.length + 8) Event.txAcc ++ es)) :
    Host.Core.run core (p.length + 9) s =
      .next
        (endOperation .sent
          (pushBytes (encodeFrame s.gaddr s.daddr p) (startFrame p (clearError { s with sched := es })))) := by
  have he := nextEvent_head hs (by rw [hp]; rfl)
  have hstep : step s = _ := (step_reqSend he).trans (acceptSend_of_fits hp hl)
  have hrest := (stillToPush_startFrame hl (clearError s)).withSched (List.replicate (p.length + 8) .txAcc ++ es)
  have hrun := run_of_stillToPush hrest (by simp [encodeFrame]) (by rw [length_encodeFrame])
  rw [length_encodeFrame] at hrun
  exact (run_succ_of_step hstep _).trans hrun

/-- Settles O5: the checksum completes every frame to 0, and TXSUM, the running sum, has taken in the whole frame at the
transfer that ends a SEND. -/
theorem encodedFrameSumsToZero : Obligations.EncodedFrameSumsToZero := by
  refine ⟨fun g d p _ => sum8_encodeFrame g d p, fun s s1 t hinv he hstep hidle => ?_⟩
  obtain ⟨-, pre, post, -, rfl, -⟩ := nextEvent_some he
  cases effect_of_step he hstep with
  | pushes f b hp hf hb hl => exact absurd (hidle.symm.trans hp) nofun
  | pushesLast f b hp hf hb hl =>
    obtain ⟨p, -, hlen, -, hframe, hsum⟩ := transmitting_of_inv hinv hp
    obtain rfl : f = encodeFrame s.gaddr s.daddr p := Option.some.inj (hf.symm.trans hframe)
    have hall : (encodeFrame s.gaddr s.daddr p).length ≤ s.txcnt.toNat + 1 := by
      have hcnt : (s.txcnt + 1).toNat = s.txlen.toNat := congrArg BitVec.toNat hl
      rw [length_encodeFrame]
      bv_omega
    calc s.txsum + b = sum8 ((encodeFrame s.gaddr s.daddr p).take (s.txcnt.toNat + 1)) := by
          rw [hsum, sum8_take_succ hb]
      _ = 0 := by rw [List.take_of_length_le hall, sum8_encodeFrame]

/-- Settles O12: a request's payload decides nothing but the frame, and the run of the empty payload pushes its eight
bytes. -/
theorem payloadIsOpaque : Obligations.PayloadIsOpaque := by
  refine ⟨fun p s s1 he hl => ?_, fun rest s hp hg hd hs => ?_⟩
  · have hidle := phase_idle_of_nextEvent_reqSend he
    have hstep := step_reqSend he
    obtain ⟨-, pre, post, -, rfl, -⟩ := nextEvent_some he
    exact ⟨_, hstep.trans (acceptSend_of_fits hidle hl), rfl, read_startFrame_txbuf p _⟩
  · have hframe : encodeFrame 0x00 0x00 [] = [0xAA, 0x01, 0x00, 0x03, 0x00, 0x00, 0x00, 0x52] := by decide
    refine ⟨_, run_send hp (Nat.zero_le _) hs, rfl, ?_⟩
    rw [hg, hd, hframe]
    rfl

end Sys2Proof.Machine
end

section
/-! PROOFS. The RECV request, and the bytes of a reply's header with the checks that follow the fifth
(spec/41_decode.md). -/

namespace Sys2Proof.Machine

/-! ### Raising an error (R250) -/

theorem raise_of_desyncs {e : Error} (he : e.desyncs = true) (info : Half) (s : State) :
    raise e info s =
      { s with
        errcode := e.code, errinfo := info, desync := true, phase := .idle,
        responses := s.responses ++ [.err e.code info] } := by
  rw [raise, he, Bool.or_true]

theorem raise_of_not_desyncs {e : Error} (he : e.desyncs = false) (info : Half) (s : State) :
    raise e info s =
      { s with
        errcode := e.code, errinfo := info, phase := .idle, responses := s.responses ++ [.err e.code info] } := by
  rw [raise, he, Bool.or_false]

/-! ### The RECV request -/

theorem acceptRecv_of_direct {s : State} (hp : s.phase = .idle) (hd : s.daddr = Config.direct) :
    acceptRecv s = .next (startReply (clearError s)) := by
  simp only [acceptRecv, hp]
  exact if_pos ((replyExpected_iff s.gaddr s.daddr).mpr hd)

theorem acceptRecv_of_not_direct {s : State} (hp : s.phase = .idle) (hd : s.daddr ≠ Config.direct) :
    acceptRecv s = .next (raise .noReply (s.daddr.setWidth 16) (clearError s)) := by
  simp only [acceptRecv, hp]
  exact if_neg fun h => hd ((replyExpected_iff s.gaddr s.daddr).mp h)

/-- Settles O16: DADDR alone decides between the refusal, which leaves DESYNC and RXCNT as they were, and the start of
the reply. -/
theorem recvRequestStep : Obligations.RecvRequestStep := by
  intro s hp
  refine ⟨fun hd => ⟨_, acceptRecv_of_not_direct hp hd, ?_, fun hcnt => hcnt⟩,
    fun hd => acceptRecv_of_direct hp hd⟩
  have hidle : { s with phase := .idle } = s := by rw [← hp]
  rw [raise_of_not_desyncs rfl, ← hidle]
  rfl

/-! ### What a step makes of the event it takes -/

theorem step_of_fetch_pass {s s1 t : State} {e : Event} (he : nextEvent s = some (e, s1))
    (hf : fetch e s1 = .pass t) : step s = .next t := by
  simp only [step, he, hf]

theorem step_of_fetch_run {s s1 t : State} {e : Event} {i : Instr} (he : nextEvent s = some (e, s1))
    (hf : fetch e s1 = .run i t) : step s = exec i t := by
  simp only [step, he, hf]

/-! ### A header byte -/

theorem receivingHeader_of_inv {s : State} (h : Inv s) (hp : s.phase = .rxhdr) : receivingHeader s := by
  obtain ⟨-, -, -, -, -, -, -, hhdr, -⟩ := h
  exact hhdr hp

theorem storeByte_rxhdr {b : Byte} {h : RxHdr} {s : State} (hp : s.phase = .rxhdr)
    (hs : s.rxhdr.set s.rxcnt.toNat b = some h) : storeByte b s = some (storeHeader h s) := by
  simp only [storeByte, hp, hs, Option.map_some]

/-- The header is looked at when its fifth byte is in, and not before (R121, R170). -/
theorem fetchByte_rxhdr {b : Byte} {h : RxHdr} {s : State} (hp : s.phase = .rxhdr)
    (hs : s.rxhdr.set s.rxcnt.toNat b = some h) :
    fetchByte b s =
      if s.rxcnt.toNat = 4 then fetchHeader (pullByte b (storeHeader h s))
      else .pass (pullByte b (storeHeader h s)) := by
  have hfifth : (s.rxcnt + 1).toNat = 5 ↔ s.rxcnt.toNat = 4 := by bv_omega
  simp only [fetchByte, storeByte_rxhdr hp hs, hp, pullByte_rxcnt, storeHeader_rxcnt, hfifth]

/-! ### The checks of a whole header, in their order -/

/-- The tag is checked first (R122). -/
theorem fetchHeader_of_badTag {s : State} (ht : s.rxhdr.tag ≠ Config.tagRx) :
    fetchHeader s = .pass (raise .badHeader (s.rxhdr.tag.setWidth 16) s) := by
  simp only [fetchHeader, decode, RxHdr.bytes, decodeHeader, if_pos ht]

/-- The device class is checked once the tag is right (R123). -/
theorem fetchHeader_of_badDevice {s : State} (ht : s.rxhdr.tag = Config.tagRx)
    (hd : le16 s.rxhdr.devLo s.rxhdr.devHi ≠ Config.devId) :
    fetchHeader s = .pass (raise .badDeviceId (le16 s.rxhdr.devLo s.rxhdr.devHi) s) := by
  simp only [fetchHeader, decode, RxHdr.bytes, decodeHeader, if_neg (not_not.mpr ht), if_pos hd]

/-- A header that passes both checks is the row RF of its length (R124). -/
theorem fetchHeader_of_good {s : State} (ht : s.rxhdr.tag = Config.tagRx)
    (hd : le16 s.rxhdr.devLo s.rxhdr.devHi = Config.devId) :
    fetchHeader s = .run (.rf (le16 s.rxhdr.lenLo s.rxhdr.lenHi)) s := by
  simp only [fetchHeader, decode, RxHdr.bytes, decodeHeader, if_neg (not_not.mpr ht), if_neg (not_not.mpr hd)]

/-- The length of a good header is captured with the byte that completes it (R124). -/
theorem exec_rf_fifth {b : Byte} {h : RxHdr} {s : State} (hp : s.phase = .rxhdr) (hn : s.rxcnt.toNat = 4)
    (len : Half) :
    exec (.rf len) (pullByte b (storeHeader h s)) = .next (acceptHeader len (pullByte b (storeHeader h s))) := by
  have hfive : (s.rxcnt + 1).toNat = 5 := by bv_omega
  simp only [exec, execRf, pullByte_phase, storeHeader_phase, hp, pullByte_rxcnt, storeHeader_rxcnt, hfive, if_true]

/-- Settles O18: the byte is stored and counted, and the fifth is followed by the header's fetch, whose three answers
are the two errors and the row RF. -/
theorem headerByteStep : Obligations.HeaderByteStep := by
  intro s s1 b hinv hp he
  obtain ⟨hlt, -⟩ := receivingHeader_of_inv hinv hp
  obtain ⟨h, hset⟩ := set_isSome s.rxhdr b hlt
  obtain ⟨-, pre, post, -, rfl, -⟩ := nextEvent_some he
  have hfetch := fetchByte_rxhdr (s := { s with sched := pre ++ post }) hp hset
  refine ⟨h, pullByte b (storeHeader h { s with sched := pre ++ post }), (set_bytes hset).2, rfl,
    fun hn => ?early, fun hn ht => ?badTag, fun hn ht hd => ?badDevice, fun hn ht hd => ?good⟩
  case early => exact step_of_fetch_pass he (hfetch.trans (if_neg hn.ne))
  case badTag =>
    have hpass := (hfetch.trans (if_pos hn)).trans (fetchHeader_of_badTag ht)
    exact (step_of_fetch_pass he hpass).trans (congrArg _ (raise_of_desyncs rfl _ _))
  case badDevice =>
    have hpass := (hfetch.trans (if_pos hn)).trans (fetchHeader_of_badDevice ht hd)
    exact (step_of_fetch_pass he hpass).trans (congrArg _ (raise_of_desyncs rfl _ _))
  case good =>
    have hrun := (hfetch.trans (if_pos hn)).trans (fetchHeader_of_good ht hd)
    rw [step_of_fetch_run he hrun]
    exact exec_rf_fifth (s := { s with sched := pre ++ post }) hp hn (le16 h.lenLo h.lenHi)

end Sys2Proof.Machine
end

section
/-! PROOFS. The events of the transport: a byte taken from TXBUF, and a transport failure (spec/43_sequencer.md). -/

namespace Sys2Proof.Machine

/-! ### The transfer of a byte -/

/-- The frame in TXBUF holds the buffer's bytes, each at its own address (R42). -/
theorem read_txbuf_of_txFrame {s : State} {f : List Byte} (hf : txFrame s = some f) {i : Nat}
    (hi : i < s.txlen.toNat) : Memory.read s.txbuf i = f[i]? := by
  obtain ⟨-, hread⟩ := (readAll_eq_some s.txbuf 0 s.txlen.toNat f).mp hf
  rw [← hread i hi, Nat.zero_add]

/-- The byte at TXCNT is pushed, and the one that makes TXCNT = TXLEN ends the SEND (R168). -/
theorem transmit_of_getElem? {f : List Byte} {b : Byte} {s : State} (hp : s.phase = .tx)
    (hb : f[s.txcnt.toNat]? = some b) :
    transmit f s =
      .next (if s.txcnt + 1 = s.txlen then endOperation .sent (pushByte b s) else pushByte b s) := by
  simp only [transmit, hp, hb]
  rfl

theorem phase_tx_of_nextEvent_txAcc {s s1 : State} (he : nextEvent s = some (.txAcc, s1)) : s.phase = .tx := by
  obtain ⟨hen, -⟩ := nextEvent_some he
  simpa [enabled] using hen

/-- Settles O14: by the invariant TXCNT addresses a byte of the frame in TXBUF, so the transfer pushes that byte. -/
theorem transferPushesBufferByte : Obligations.TransferPushesBufferByte := by
  intro s s1 hinv he
  have hp := phase_tx_of_nextEvent_txAcc he
  obtain ⟨p, -, hlen, hcnt, hframe, -⟩ := transmitting_of_inv hinv hp
  have hin : s.txcnt.toNat < (encodeFrame s.gaddr s.daddr p).length := by rwa [length_encodeFrame, ← hlen]
  have hb := List.getElem?_eq_getElem hin
  refine ⟨_, (read_txbuf_of_txFrame hframe hcnt).trans hb, ?_⟩
  obtain ⟨-, pre, post, -, rfl, -⟩ := nextEvent_some he
  rw [step_txAcc he hframe, transmit_of_getElem? (s := { s with sched := pre ++ post }) hp hb, ← hp]
  rfl

/-! ### A transport failure -/

theorem phase_ne_idle_of_nextEvent_xfail {s s1 : State} {k : FailKind} (he : nextEvent s = some (.xfail k, s1)) :
    s.phase ≠ .idle := by
  obtain ⟨hen, -⟩ := nextEvent_some he
  simpa [enabled] using hen

/-- Settles O32: an XFAIL is enabled in the three busy phases only, and raises TransportError with its kind's code. -/
theorem transportFailureEndsOperation : Obligations.TransportFailureEndsOperation := by
  intro x hx s s1 he
  have hcodes : ∀ y ∈ [(FailKind.timeout, (1 : Half)), (.disconnect, 2), (.closed, 3)], y.1.code = y.2 := by decide
  have hraise : step s = .next (raise .transportError x.1.code s1) := step_of_fetch_pass he rfl
  refine ⟨phase_ne_idle_of_nextEvent_xfail he, ?_⟩
  obtain ⟨-, pre, post, -, rfl, -⟩ := nextEvent_some he
  rw [hraise, hcodes x hx, raise_of_desyncs rfl]
  rfl

end Sys2Proof.Machine
end

section
/-! PROOFS. The decoder and the encoder undo each other, row by row (spec/30_encoding.md sections 1, 3 and 7). -/

namespace Sys2Proof

/-! ### Decoding what was encoded -/

theorem decodeHeader_headerBytes (len : Half) : decodeHeader (headerBytes len) = .ok (.rf len) := by
  simp [headerBytes, decodeHeader, -lo8_devId, -hi8_devId]

theorem decodeCommand_withCode {c : Half} {f : List Byte → Instr} (h : commandOfCode c = some f) (args : List Byte) :
    decodeCommand (withCode c args) = .ok (f args) := by
  simp only [withCode, decodeCommand, le16_lo8_hi8, h]

/-- A command row whose code is listed is decoded by that code (R82). -/
theorem decode_encode_of_code {i : Instr} {c : Half} {f : List Byte → Instr} {args : List Byte}
    (he : encode i = .bytes .cfCode (withCode c args)) (hc : commandOfCode c = some f) (hi : f args = i) :
    decode (encode i) = .ok i := by
  rw [he, ← hi]
  exact decodeCommand_withCode hc args

theorem decodeRegionCode_withFeedbackCode (tail : List Byte) :
    decodeRegionCode (withCode Config.feedbackCode tail) = .ok (.feedback tail) := by
  simp only [withCode, decodeRegionCode, le16_lo8_hi8, if_true]

theorem decodeRegionCode_withCode {c : Half} (hc : c ≠ Config.feedbackCode) (tail : List Byte) :
    decodeRegionCode (withCode c tail) = .ok (.dataReply c tail) := by
  simp only [withCode, decodeRegionCode, le16_lo8_hi8, if_neg hc]

/-- The row of a feedback region with this status byte (R83). -/
def feedbackRow (st : Byte) (rest : List Byte) : Instr :=
  if st = 0x00 then .fbOk rest
  else if st = 0x01 then .fbChecksumError rest
  else if st = 0x02 then .fbWrongCommand rest
  else if st = 0x03 then .fbExecError rest
  else if st = 0x04 then .fbInvalidMode rest
  else if st = 0x05 then .fbAddressError rest
  else .fbUnknown st rest

theorem decodeFeedback_withStatus (st : Byte) (rest : List Byte) :
    decodeFeedback (withStatus st rest) = .ok (feedbackRow st rest) := by
  simp only [withStatus, withCode, decodeFeedback, le16_lo8_hi8, ne_eq, not_true_eq_false, if_false, feedbackRow]
  split_ifs <;> rfl

/-- A feedback row is decoded by its status (R83). -/
theorem decode_encode_of_status {i : Instr} {st : Byte} {rest : List Byte}
    (he : encode i = .bytes .rfFeedback (withStatus st rest)) (hi : feedbackRow st rest = i) :
    decode (encode i) = .ok i := by
  rw [he, ← hi]
  exact decodeFeedback_withStatus st rest

theorem feedbackRow_of_six_le {st : Byte} (h : 6 ≤ st.toNat) (rest : List Byte) :
    feedbackRow st rest = .fbUnknown st rest := by
  have hne : ∀ n < 6, st ≠ BitVec.ofNat 8 n := by
    rintro n hn rfl
    rw [BitVec.toNat_ofNat] at h
    omega
  simp [feedbackRow, hne 0, hne 1, hne 2, hne 3, hne 4, hne 5]

/-- Settles O1: each format's decoder reads back the fields that the encoder laid down, and a command's or feedback
row is found again by its code or status. -/
theorem decodeOfEncodeGivesInstruction : Obligations.DecodeOfEncodeGivesInstruction := by
  intro i hwf
  cases i with
  | cf len g d p cs => exact decodeFrame_frameBytes len g d p cs
  | rf len => exact decodeHeader_headerBytes len
  | setVolume a | setStandby a | setMonitorSettings a | setAddr a | setRxEdid a | downloadUserEdid a | setBaudRate a
  | getVolume a | getStandby a | getSource a | getSignalInfo a | getTiming a | getSignalPackageInfo a | getPicture a
  | getMonitoringData a | getPixelRgbData a | getBatteryVoltage a | getExt5vInput a | getSignalStatus a
  | getDeviceAddr a | getDeviceVersion a | getRxEdidIndex a | getRxEdidData a | getFwInfo a =>
    exact decode_encode_of_code rfl rfl rfl
  | feedback t => exact decodeRegionCode_withFeedbackCode t
  | dataReply c p =>
    simp only [Instr.wellFormed, Bool.and_eq_true, bne_iff_ne] at hwf
    exact decodeRegionCode_withCode hwf.1 p
  | fbOk r | fbChecksumError r | fbWrongCommand r | fbExecError r | fbInvalidMode r | fbAddressError r =>
    exact decode_encode_of_status rfl rfl
  | fbUnknown st r =>
    simp only [Instr.wellFormed, Bool.and_eq_true, decide_eq_true_eq] at hwf
    exact decode_encode_of_status rfl (feedbackRow_of_six_le hwf.1 r)
  | send p | recv | rdcr n | reset g d k => rfl

/-! ### Encoding what was decoded -/

theorem encode_of_decodeFrame {bs : List Byte} {i : Instr} (h : decodeFrame bs = .ok i) :
    encode i = .bytes .cf bs := by
  unfold decodeFrame at h
  split at h
  · split_ifs at h with ht hd
    cases h
    rw [not_ne_iff] at ht hd
    simp [encode, frameBytes, ← hd, ht, List.dropLast_append_getLast, -lo8_devId, -hi8_devId]
  · cases h

theorem encode_of_decodeHeader {bs : List Byte} {i : Instr} (h : decodeHeader bs = .ok i) :
    encode i = .bytes .rf bs := by
  unfold decodeHeader at h
  split at h
  · split_ifs at h with ht hd
    cases h
    rw [not_ne_iff] at ht hd
    simp [encode, headerBytes, ← hd, ht, -lo8_devId, -hi8_devId]
  · cases h

theorem encode_of_commandOfCode {c : Half} {f : List Byte → Instr} (h : commandOfCode c = some f) (args : List Byte) :
    encode (f args) = .bytes .cfCode (withCode c args) := by
  unfold commandOfCode at h
  iterate 24
    rcases Machine.ite_some_cases h with ⟨rfl, rfl⟩ | h
    · rfl
  cases h

theorem encode_of_decodeCommand {bs : List Byte} {i : Instr} (h : decodeCommand bs = .ok i) :
    encode i = .bytes .cfCode bs := by
  unfold decodeCommand at h
  split at h
  · split at h
    · next hf =>
      cases h
      simp [encode_of_commandOfCode hf, withCode]
    · cases h
  · cases h

theorem encode_of_decodeRegionCode {bs : List Byte} {i : Instr} (h : decodeRegionCode bs = .ok i) :
    encode i = .bytes .rfCode bs := by
  unfold decodeRegionCode at h
  split at h
  · split_ifs at h with hc
    · cases h
      simp [encode, withCode, ← hc]
    · cases h
      simp [encode, withCode]
  · cases h

theorem encode_feedbackRow (st : Byte) (rest : List Byte) :
    encode (feedbackRow st rest) = .bytes .rfFeedback (withStatus st rest) := by
  unfold feedbackRow
  split_ifs <;> (subst_vars; rfl)

/-- A region that decodes to a feedback row is the region of its status. -/
theorem decodeFeedback_ok {bs : List Byte} {i : Instr} (h : decodeFeedback bs = .ok i) :
    ∃ st rest, bs = withStatus st rest ∧ i = feedbackRow st rest := by
  obtain ⟨st, rest, rfl, -⟩ := Machine.exec_of_decodeFeedback h
  rw [decodeFeedback_withStatus] at h
  exact ⟨st, rest, rfl, (Except.ok.inj h).symm⟩

/-- Settles O2: what a format's decoder accepts it accepts whole, and the encoder lays the same bytes down. -/
theorem encodeOfDecodedGivesWire : Obligations.EncodeOfDecodedGivesWire := by
  intro w i h
  match w, h with
  | .bytes .cf bs, h => exact encode_of_decodeFrame h
  | .bytes .rf bs, h => exact encode_of_decodeHeader h
  | .bytes .cfCode bs, h => exact encode_of_decodeCommand h
  | .bytes .rfCode bs, h => exact encode_of_decodeRegionCode h
  | .bytes .rfFeedback bs, h =>
    obtain ⟨st, rest, rfl, rfl⟩ := decodeFeedback_ok h
    exact encode_feedbackRow st rest
  | .request r, h =>
    cases h
    cases r <;> rfl

/-- Settles O7: the ten words, evaluated. -/
theorem tableWordsDecode : Obligations.TableWordsDecode := by
  unfold Obligations.TableWordsDecode
  decide

/-! ### ParseCommand -/

/-- The checks of ParseCommand and what it answers where they pass (R87). -/
theorem parseCommand_eq_some {f : List Byte} {g d : Byte} {p : List Byte} :
    parseCommand f = some (g, d, p) ↔
      ∃ v0 v1 l0 l1 : Byte, ∃ rest : List Byte,
        f = Config.tagTx :: v0 :: v1 :: l0 :: l1 :: g :: d :: rest ∧ le16 v0 v1 = Config.devId ∧ 8 ≤ f.length ∧
          3 ≤ (le16 l0 l1).toNat ∧ f.length = (le16 l0 l1).toNat + 5 ∧ sum8 f = 0 ∧
          p = rest.take ((le16 l0 l1).toNat - 3) := by
  constructor
  · intro h
    unfold parseCommand at h
    split at h
    · next t v0 v1 l0 l1 g' d' rest =>
      simp only at h
      split_ifs at h with h8 ht hd hl hs
      rw [not_ne_iff] at ht hd hs
      cases h
      subst ht
      exact ⟨v0, v1, l0, l1, rest, rfl, hd, by omega, by omega, by omega, hs, rfl⟩
    · cases h
  · rintro ⟨v0, v1, l0, l1, rest, rfl, hd, h8, h3, hl, hs, rfl⟩
    have hlen : ¬((le16 l0 l1).toNat < 3 ∨
        (Config.tagTx :: v0 :: v1 :: l0 :: l1 :: g :: d :: rest).length ≠ (le16 l0 l1).toNat + 5) := by omega
    simp only [parseCommand, if_neg (Nat.not_lt.mpr h8), if_neg hlen, hd, hs, ne_eq, not_true_eq_false, if_false]

/-- The checks as R87 words them: on the frame's bytes by their offsets. -/
theorem frame_fields_iff {f rest : List Byte} {t v0 v1 l0 l1 g d : Byte} :
    f = t :: v0 :: v1 :: l0 :: l1 :: g :: d :: rest ↔
      f[0]? = some t ∧ f[1]? = some v0 ∧ f[2]? = some v1 ∧ f[3]? = some l0 ∧ f[4]? = some l1 ∧ f[5]? = some g ∧
        f[6]? = some d ∧ f.drop 7 = rest := by
  constructor
  · rintro rfl
    exact ⟨rfl, rfl, rfl, rfl, rfl, rfl, rfl, rfl⟩
  · rintro ⟨h0, h1, h2, h3, h4, h5, h6, rfl⟩
    match f, h0, h1, h2, h3, h4, h5, h6 with
    | _ :: _ :: _ :: _ :: _ :: _ :: _ :: _, h0, h1, h2, h3, h4, h5, h6 =>
      cases h0; cases h1; cases h2; cases h3; cases h4; cases h5; cases h6; rfl

theorem parseCommand_encodeFrame (g d : Byte) {p : List Byte} (hp : p.length ≤ Config.txMax) :
    parseCommand (encodeFrame g d p) = some (g, d, p) := by
  have hlen : (lengthField p).toNat = p.length + 3 := toNat_lengthField hp
  refine parseCommand_eq_some.mpr ⟨0x01, 0x00, lo8 (lengthField p), hi8 (lengthField p),
    p ++ [checksum (frameBody g d p)], encodeFrame_eq_frameHead_append g d p, by decide, ?_, ?_, ?_,
    sum8_encodeFrame g d p, ?_⟩
  · simp
  · rw [le16_lo8_hi8, hlen]; omega
  · rw [le16_lo8_hi8, hlen, length_encodeFrame]
  · rw [le16_lo8_hi8, hlen, Nat.add_sub_cancel, List.take_left]

/-- Settles O3: the frame of `Encode` passes every check of ParseCommand, and the checks are read off its branches. -/
theorem parseCommandInvertsEncode : Obligations.ParseCommandInvertsEncode := by
  refine ⟨fun g d p hp => parseCommand_encodeFrame g d hp, fun f g d p => ?_⟩
  rw [parseCommand_eq_some]
  constructor
  · rintro ⟨v0, v1, l0, l1, rest, hf, hd, h8, h3, hl, hs, hp⟩
    obtain ⟨f0, f1, f2, f3, f4, f5, f6, hrest⟩ := frame_fields_iff.mp hf
    exact ⟨v0, v1, l0, l1, h8, f0, f1, f2, hd, f3, f4, h3, hl, hs, f5, f6, by rw [hrest, hp]⟩
  · rintro ⟨v0, v1, l0, l1, h8, f0, f1, f2, hd, f3, f4, h3, hl, hs, f5, f6, hp⟩
    exact ⟨v0, v1, l0, l1, f.drop 7, frame_fields_iff.mpr ⟨f0, f1, f2, f3, f4, f5, f6, rfl⟩, hd, h8, h3, hl, hs, hp⟩

/-! ### The checksum -/

theorem sum8_append (l m : List Byte) : sum8 (l ++ m) = sum8 l + sum8 m := by
  apply BitVec.eq_of_toNat_eq
  rw [toNat_sum8, byteSum_append, BitVec.toNat_add, toNat_sum8, toNat_sum8, ← Nat.add_mod]

theorem byteSum_eq_sum (s : List Byte) : byteSum s = (s.map BitVec.toNat).sum := by
  induction s with
  | nil => rfl
  | cons b s ih => simp [byteSum, ih]

theorem toNat_checksum (s : List Byte) : (checksum s).toNat = (256 - byteSum s % 256) % 256 := by
  simp [checksum]

/-- The checksum is the two's complement of the sum (R102). -/
theorem checksum_eq_neg_sum8 (s : List Byte) : checksum s = 0 - sum8 s := by
  apply BitVec.eq_of_toNat_eq
  rw [toNat_checksum, BitVec.toNat_sub, toNat_sum8]
  simp

theorem checksum_perm {s t : List Byte} (h : s.Perm t) : checksum t = checksum s := by
  simp only [checksum, byteSum_eq_sum, (h.map BitVec.toNat).sum_eq]

/-- Settles O6: every form is the two's complement of the sum, which does not depend on the order. -/
theorem checksumEquivalentForms : Obligations.ChecksumEquivalentForms := by
  intro body
  rw [← byteSum_eq_sum]
  refine ⟨toNat_checksum body, by omega, fun h0 => ?zero, checksum_eq_neg_sum8 body, ?complement,
    fun body' hperm => checksum_perm hperm⟩
  case zero =>
    apply BitVec.eq_of_toNat_eq
    rw [toNat_checksum, h0]
    rfl
  case complement =>
    have hones : (0xFF : Byte) = BitVec.allOnes 8 := rfl
    rw [checksum_eq_neg_sum8, BitVec.ofNat_eq_ofNat, BitVec.zero_sub, BitVec.neg_eq_not_add, hones,
      BitVec.xor_allOnes]
    rfl

end Sys2Proof
end

section
/-! PROOFS. The requests of the host, SEND and its command rows, RDCR and RESET, the transfer of a command frame, and
what raising an error writes (spec/10_state.md, spec/40_encode.md, spec/43_sequencer.md sections 2 and 3,
spec/44_command_codes.md section 1, spec/60_exceptions.md). -/

namespace Sys2Proof.Machine

theorem endOperation_of_idle {s : State} (hp : s.phase = .idle) (r : Response) :
    endOperation r s = { s with responses := s.responses ++ [r] } := by
  rw [endOperation, ← hp]

/-! ### The command rows -/

theorem commandOfCode_of_mem {r : (List Byte → Instr) × Half} (hr : r ∈ commandRows) :
    commandOfCode r.2 = some r.1 := by
  fin_cases hr <;> rfl

/-- Every command row is one SEND of its code and arguments (R90). -/
theorem exec_commandRow {r : (List Byte → Instr) × Half} (hr : r ∈ commandRows) (args : List Byte) (s : State) :
    exec (r.1 args) s = acceptSend (withCode r.2 args) s :=
  exec_of_commandOfCode (commandOfCode_of_mem hr) args s

@[simp] theorem length_withCode (c : Half) (args : List Byte) : (withCode c args).length = args.length + 2 := rfl

/-! ### SEND -/

/-- What a SEND that fits leaves (R105, R167). -/
theorem acceptSend_loads {p : List Byte} {s : State} (hp : s.phase = .idle) (hl : p.length ≤ 65532) :
    ∃ t : State,
      acceptSend p s = .next t ∧
        t = { s with
              errcode := 0, errinfo := 0, txbuf := t.txbuf, txlen := BitVec.ofNat 17 (p.length + 8), txcnt := 0,
              txsum := 0, phase := .tx } ∧
        ∀ a : Nat, Memory.read t.txbuf a =
          if a < p.length + 8 then (encodeFrame s.gaddr s.daddr p)[a]? else Memory.read s.txbuf a :=
  ⟨_, acceptSend_of_fits hp hl, rfl, read_startFrame_txbuf p (clearError s)⟩

/-- Settles O9: SEND is the acceptance of its payload. -/
theorem sendLoadsFrame : Obligations.SendLoadsFrame :=
  fun _ _ hp hl => acceptSend_loads hp hl

/-- Settles O10: a command row is the SEND of its code and arguments, two bytes longer than the arguments. -/
theorem commandLoadsItsFrame : Obligations.CommandLoadsItsFrame := by
  intro r hr args s hp hl
  rw [exec_commandRow hr]
  exact acceptSend_loads (p := withCode r.2 args) hp (by rw [length_withCode]; omega)

theorem acceptSend_of_oversized {p : List Byte} {s : State} (hp : s.phase = .idle) (hl : Config.txMax < p.length) :
    acceptSend p s = .next (raise .argumentError 0 (clearError s)) := by
  simp only [acceptSend, hp]
  exact if_pos hl

/-- What a SEND that does not fit leaves (R106). -/
theorem acceptSend_refuses {p : List Byte} {s : State} (hp : s.phase = .idle) (hl : 65532 < p.length) :
    acceptSend p s = .next { s with errcode := 5, errinfo := 0, responses := s.responses ++ [.err 5 0] } := by
  rw [acceptSend_of_oversized hp hl, raise_of_not_desyncs rfl, ← hp]
  rfl

/-- Settles O11: SEND and the command rows are refused by one check of the payload's length. -/
theorem oversizePayloadRefused : Obligations.OversizePayloadRefused := by
  refine ⟨fun p s hp hl => acceptSend_refuses hp hl, fun r hr args s hp hl => ?_⟩
  rw [exec_commandRow hr]
  exact acceptSend_refuses hp (by rw [length_withCode]; omega)

/-! ### The transfer of a frame -/

/-- Settles O13: CF is the transfer of the byte of its frame that TXCNT counts to. -/
theorem frameByteTransmitted : Obligations.FrameByteTransmitted := by
  intro len g d p cs b s hp hb
  exact (transmit_of_getElem? hp hb).trans rfl

/-- A frame that is pushed whole is counted whole, and its sum is 0 (R104). -/
theorem pushBytes_startFrame (p : List Byte) (s : State) :
    pushBytes (encodeFrame s.gaddr s.daddr p) (startFrame p s) =
      { startFrame p s with
        txStream := s.txStream ++ encodeFrame s.gaddr s.daddr p, txcnt := BitVec.ofNat 17 (p.length + 8) } := by
  simp [pushBytes, sum8_encodeFrame]

/-- Settles O15: the whole run of a SEND pushes the frame, whose sum is 0. -/
theorem sendRunTransmitsFrame : Obligations.SendRunTransmitsFrame := by
  intro p rest s hp hl hs
  refine ⟨_, run_send hp hl hs, ?_, read_startFrame_txbuf p (clearError s)⟩
  have hpush := pushBytes_startFrame p (clearError { s with sched := rest })
  simp only [clearError_gaddr, clearError_daddr] at hpush
  rw [hpush, endOperation, ← hp]
  rfl

/-! ### RDCR, STATUS and RESET -/

theorem rply_eq_decide (s : State) : rply s = decide (s.daddr = 0x00) := by
  simp [rply, replyExpected, Config.direct, beq_eq_decide]

theorem busy_eq_decide (s : State) : busy s = decide (s.phase ≠ .idle) := by
  simp [busy, bne, beq_eq_decide]

theorem toNat_crAddr (s : State) : (crAddr s).toNat = s.gaddr.toNat + 256 * s.daddr.toNat := by
  rw [crAddr, BitVec.toNat_append, ← Nat.shiftLeft_add_eq_or_of_lt s.gaddr.isLt, Nat.shiftLeft_eq]
  omega

theorem toNat_crCfg (s : State) : (crCfg s).toNat = s.rxck.toNat := by
  unfold crCfg
  cases s.rxck <;> rfl

theorem toNat_crErr (s : State) : (crErr s).toNat = s.errcode.toNat := by
  rw [crErr, BitVec.toNat_append]
  simp

theorem crId_eq : crId = 0x0001ABAA := by decide

theorem toNat_crStatus_of_idle {s : State} (hp : s.phase = .idle) :
    (crStatus s).toNat = 2 * s.desync.toNat + 16 * (decide (s.daddr = 0x00)).toNat := by
  simp only [crStatus, rply_eq_decide, busy_eq_decide, hp]
  cases s.desync <;> cases decide (s.daddr = 0x00) <;> rfl

theorem controlRegister_of_eight_lt {n : Nat} (hn : 8 < n) (s : State) : controlRegister n s = 0 := by
  unfold controlRegister
  split <;> first | omega | rfl

/-- A register of at most 32 bits keeps its value when it is zero-extended (R30). -/
theorem toNat_setWidth_32 {w : Nat} (hw : w ≤ 32) (x : BitVec w) : (x.setWidth 32).toNat = x.toNat := by
  rw [BitVec.toNat_setWidth, Nat.mod_eq_of_lt]
  exact x.isLt.trans_le (Nat.pow_le_pow_right (by decide) hw)

theorem exec_rdcr {s : State} (hp : s.phase = .idle) (n : Nat) :
    exec (.rdcr n) s = .next { s with responses := s.responses ++ [.val (controlRegister n s)] } := by
  simp only [exec, execRdcr, hp, endOperation_of_idle]

/-- Settles O28: the answer is the register, which zero extension to 32 bits does not change. -/
theorem rdcrReadsRegister : Obligations.RdcrReadsRegister := by
  intro n s hp
  refine ⟨controlRegister n s, exec_rdcr hp n, ?addr, ?cfg, ?id, ?status, ?err, ?info, ?code, ?stat, ?len,
    fun hn => controlRegister_of_eight_lt hn s⟩ <;> rintro rfl
  case addr => exact (toNat_setWidth_32 (by decide) _).trans (toNat_crAddr s)
  case cfg => exact (toNat_setWidth_32 (by decide) _).trans (toNat_crCfg s)
  case id => exact crId_eq
  case status => exact (toNat_setWidth_32 (by decide) _).trans (toNat_crStatus_of_idle hp)
  case err => exact (toNat_setWidth_32 (by decide) _).trans (toNat_crErr s)
  case info | code | stat | len => exact toNat_setWidth_32 (by decide) _

/-- Settles O29: the register is put together of five fields, whose values are few. -/
theorem statusRegisterBits : Obligations.StatusRegisterBits := by
  intro s
  simp only [crStatus, rply_eq_decide, busy_eq_decide]
  generalize s.phase = ph
  generalize s.desync = f
  generalize decide (s.daddr = 0x00) = r
  cases ph <;> revert f r <;> decide

/-- Settles O30: every clause is a field of the reset state. -/
theorem resetWritesState : Obligations.ResetWritesState := by
  intro g d k s
  exact ⟨resetBlock g d k s, rfl, rfl, rfl, rfl, rfl, rfl, rfl, rfl, rfl, rfl, rfl, rfl, rfl, rfl, rfl, rfl, rfl, rfl,
    crId_eq, rfl, rfl, rfl, rfl⟩

/-- Settles O31: the codes and the DESYNC column of R240, error by error. -/
theorem raiseWritesErrorRegisters : Obligations.RaiseWritesErrorRegisters := by
  intro x hx info s
  fin_cases hx <;> rfl

end Sys2Proof.Machine
end

section
/-! PROOFS. The reply rows and the bytes of a reply's body, the last of which ends the RECV with the outcome of
DecodeReply (spec/41_decode.md). -/

namespace Sys2Proof.Machine

/-! ### The rows of a reply -/

/-- Settles O17: in RXHDR with five bytes in, RF accepts the header. -/
theorem replyHeaderAccepted : Obligations.ReplyHeaderAccepted := by
  intro len s hp hn
  simp only [exec, execRf, hp, hn, if_true]
  rfl

theorem exec_dataReply (code : Half) (payload : List Byte) (s : State) :
    exec (.dataReply code payload) s = endReply (fun s => deliver code payload (noteCode code s)) s := rfl

theorem exec_feedback_nil (s : State) :
    exec (.feedback []) s = endReply (fun s => shortFrame (noteCode Config.feedbackCode s)) s := rfl

theorem exec_feedback_cons (st : Byte) (rest : List Byte) (s : State) :
    exec (.feedback (st :: rest)) s =
      endReply (fun s => if st = Config.statusOk then feedbackAccepts rest s else feedbackRejects st s) s := rfl

theorem exec_feedback (tail : List Byte) (s : State) : ∃ act, exec (.feedback tail) s = endReply act s := by
  cases tail with
  | nil => exact ⟨_, exec_feedback_nil s⟩
  | cons st rest => exact ⟨_, exec_feedback_cons st rest s⟩

/-- Settles O22: past the validator, DATA_REPLY notes its code and delivers. -/
theorem dataReplyDelivered : Obligations.DataReplyDelivered := by
  intro code payload s _ hp hn hk
  rw [exec_dataReply, endReply_pass hp hn hk]
  rfl

/-- Settles O23: the row of status OK, and FEEDBACK with that status, accept alike. -/
theorem feedbackOkDelivered : Obligations.FeedbackOkDelivered := by
  rintro rest s hp hn hk i (rfl | rfl)
  · exact endReply_pass hp hn hk
  · rw [exec_feedback_cons, endReply_pass hp hn hk]
    rfl

theorem feedbackRejects_eq (st : Byte) (s : State) :
    feedbackRejects st s =
      { s with
        rcode := 0xFFFF, rstat := st, errcode := 3, errinfo := st.setWidth 16, phase := .idle,
        responses := s.responses ++ [.err 3 (st.setWidth 16)] } := by
  rw [feedbackRejects, raise_of_not_desyncs rfl]
  rfl

/-- A rejection row of R83 rejects with its own status. -/
theorem exec_rejectionRow {r : (List Byte → Instr) × Byte} (hr : r ∈ rejectionRows) (rest : List Byte) (s : State) :
    exec (r.1 rest) s = endReply (feedbackRejects r.2) s := by
  fin_cases hr <;> rfl

/-- Settles O24: FEEDBACK, the row of the status, and FB_UNKNOWN reject alike. -/
theorem feedbackRejectsCommand : Obligations.FeedbackRejectsCommand := by
  intro st rest s hp hn hk hst i hi
  rw [← feedbackRejects_eq]
  rcases hi with rfl | ⟨r, hr, rfl, rfl⟩ | ⟨-, rfl⟩
  · rw [exec_feedback_cons, endReply_pass hp hn hk]
    exact congrArg _ (if_neg hst)
  · rw [exec_rejectionRow hr, endReply_pass hp hn hk]
  · exact endReply_pass hp hn hk

/-- Settles O25: both rows raise ShortFrame, FEEDBACK after noting the code. -/
theorem shortFrameRaised : Obligations.ShortFrameRaised := by
  intro s hp hn hk
  refine ⟨fun hlen len => ?noCode, ?noStatus⟩
  case noCode =>
    simp only [exec, execRf, hp, hlen, if_true, endReply_pass hp hn hk, shortFrame,
      raise_of_desyncs (e := .shortFrame) rfl]
    rfl
  case noStatus =>
    simp only [exec_feedback_nil, endReply_pass hp hn hk, shortFrame, raise_of_desyncs (e := .shortFrame) rfl]
    rfl

/-- What O26 lists: the rows that a reply may be read as at its end. -/
theorem exec_replyRow {s : State} {i : Instr} (hp : s.phase = .rxbody)
    (hi : (∃ tail, i = .feedback tail) ∨ (∃ code payload, i = .dataReply code payload) ∨ (∃ rest, i = .fbOk rest) ∨
      (∃ r ∈ rejectionRows, ∃ rest, i = r.1 rest) ∨ (∃ st rest, i = .fbUnknown st rest) ∨
      (s.rxlen.toNat < 2 ∧ ∃ len, i = .rf len)) :
    ∃ act, exec i s = endReply act s := by
  rcases hi with ⟨tail, rfl⟩ | ⟨code, payload, rfl⟩ | ⟨rest, rfl⟩ | ⟨r, hr, rest, rfl⟩ | ⟨st, rest, rfl⟩ |
    ⟨hlen, len, rfl⟩
  · exact exec_feedback tail s
  · exact ⟨_, exec_dataReply code payload s⟩
  · exact ⟨_, rfl⟩
  · exact ⟨_, exec_rejectionRow hr rest s⟩
  · exact ⟨_, rfl⟩
  · exact ⟨shortFrame, by simp only [exec, execRf, hp, if_pos hlen]⟩

/-- Settles O26: every reply row is an end of a reply, and there the validator comes first. -/
theorem checksumMismatchComesFirst : Obligations.ChecksumMismatchComesFirst := by
  intro s hp hn hk hs i hi
  obtain ⟨act, hexec⟩ := exec_replyRow hp hi
  rw [hexec, endReply_mismatch hp hn hk hs, raise_of_desyncs rfl]
  rfl

/-! ### How an operation ends -/

/-- An operation ends from `s` in `t`: with a response that is no error, or by raising one (R172, R250). -/
inductive Ends (s : State) : State → Prop where
  | answers (r : Response) (hr : ∀ c info, r ≠ .err c info) : Ends s (endOperation r s)
  | raises (e : Error) (info : Half) : Ends s (raise e info s)

theorem Ends.phase_idle {s t : State} (h : Ends s t) : t.phase = .idle := by
  cases h <;> rfl

theorem Ends.responses {s t : State} (h : Ends s t) : ∃ r, t.responses = s.responses ++ [r] := by
  cases h <;> exact ⟨_, rfl⟩

/-- The state at a reply's end, its code and status noted as `c` and `st`. -/
def noted (c : Half) (st : Byte) (s : State) : State := { s with rcode := c, rstat := st }

/-- What a reply's region does is to note its code and status and to end the operation. -/
theorem RegionDoes.ends {r : List Byte} {act : State → State} (h : RegionDoes r act) (s : State) :
    ∃ c st, Ends (noted c st s) (act s) := by
  cases h with
  | short _ _ => exact ⟨s.rcode, s.rstat, .raises .shortFrame s.rxlen⟩
  | noStatus => exact ⟨Config.feedbackCode, s.rstat, .raises .shortFrame s.rxlen⟩
  | accepts rest => exact ⟨Config.feedbackCode, Config.statusOk, .answers (.data _ (Config.statusOk :: rest)) nofun⟩
  | rejects st _ _ => exact ⟨Config.feedbackCode, st, .raises .commandError (st.setWidth 16)⟩
  | data c tail _ => exact ⟨c, s.rstat, .answers (.data c tail) nofun⟩

/-- What the last byte of a reply makes of the state, where the region does `act` (R131, R132, R134). -/
def lastByte (act : State → State) (b : Byte) (s : State) : State :=
  if s.rxck && s.rxsum + b != 0 then
    raise .checksumMismatch ((s.rxsum + b).setWidth 16) (pullByte b (storeChecksum b s))
  else act (pullByte b (storeChecksum b s))

theorem lastByte_ends {r : List Byte} {act : State → State} (h : RegionDoes r act) (b : Byte) (s : State) :
    ∃ c st, Ends (noted c st (pullByte b (storeChecksum b s))) (lastByte act b s) := by
  unfold lastByte
  split
  · exact ⟨s.rcode, s.rstat, .raises .checksumMismatch _⟩
  · exact h.ends _

/-! ### The response is that of DecodeReply -/

/-- Past the validator, the region alone decides the outcome (R126 to R130). -/
theorem RegionDoes.responses {r : List Byte} {act : State → State} (h : RegionDoes r act) (s : State)
    (frame : List Byte) :
    (act s).responses = s.responses ++ [responseOf (checkReply false frame s.rxlen r)] := by
  cases h with
  | short r hr =>
    match r, hr with
    | [], _ => rfl
    | [_], _ => rfl
  | noStatus => rfl
  | accepts rest => rfl
  | rejects st rest hst =>
    simp [withStatus, withCode, checkReply, responseOf, feedbackRejects, hst]
  | data c tail hc => simp [withCode, checkReply, responseOf, deliver, hc]

theorem checkReply_of_mismatch {k : Bool} {frame r : List Byte} {len : Half} (h : k = true ∧ sum8 frame ≠ 0) :
    checkReply k frame len r = .checksumMismatch (sum8 frame) :=
  if_pos h

theorem checkReply_of_pass {k : Bool} {frame r : List Byte} {len : Half} (h : ¬(k = true ∧ sum8 frame ≠ 0)) :
    checkReply k frame len r = checkReply false frame len r :=
  (if_neg h).trans (if_neg (by simp)).symm

theorem lastByte_responses {r : List Byte} {act : State → State} (h : RegionDoes r act) {b : Byte} {s : State}
    {frame : List Byte} (hsum : sum8 frame = s.rxsum + b) :
    (lastByte act b s).responses = s.responses ++ [responseOf (checkReply s.rxck frame s.rxlen r)] := by
  have hcond : (s.rxck && s.rxsum + b != 0) = true ↔ s.rxck = true ∧ sum8 frame ≠ 0 := by
    rw [Bool.and_eq_true, bne_iff_ne, hsum]
  unfold lastByte
  split
  · next hm => rw [checkReply_of_mismatch (hcond.mp hm), hsum]; rfl
  · next hm => rw [checkReply_of_pass (mt hcond.mpr hm)]; exact h.responses _ frame

/-! ### A byte of the body -/

section
variable {s s1 : State} {b : Byte}

theorem storeByte_region (hp : s.phase = .rxbody) (h5 : 5 ≤ s.rxcnt.toNat) (hlt : s.rxcnt.toNat < 5 + s.rxlen.toNat) :
    storeByte b s = some (storeRegion (s.rxcnt.toNat - 5) b s) := by
  simp only [storeByte, hp, if_neg (Nat.not_lt.mpr h5), if_pos hlt]

theorem storeByte_checksum (hp : s.phase = .rxbody) (hn : s.rxcnt.toNat = 5 + s.rxlen.toNat) :
    storeByte b s = some (storeChecksum b s) := by
  have h5 : ¬s.rxcnt.toNat < 5 := by omega
  have hlt : ¬s.rxcnt.toNat < 5 + s.rxlen.toNat := by omega
  simp only [storeByte, hp, if_neg h5, if_neg hlt, if_pos hn]

theorem toNat_rxcnt_succ (hle : s.rxcnt.toNat ≤ 5 + s.rxlen.toNat) : (s.rxcnt + 1).toNat = s.rxcnt.toNat + 1 := by
  have hlen := s.rxlen.isLt
  bv_omega

/-- Before the last byte no check is made (R125). -/
theorem fetchByte_region (hp : s.phase = .rxbody) (h5 : 5 ≤ s.rxcnt.toNat) (hlt : s.rxcnt.toNat < 5 + s.rxlen.toNat) :
    fetchByte b s = .pass (pullByte b (storeRegion (s.rxcnt.toNat - 5) b s)) := by
  have hnc : ¬replyComplete (pullByte b (storeRegion (s.rxcnt.toNat - 5) b s)) = true := by
    rw [replyComplete_iff]
    rintro ⟨-, hn⟩
    simp only [pullByte_rxcnt, storeRegion_rxcnt, pullByte_rxlen, storeRegion_rxlen, toNat_rxcnt_succ hlt.le] at hn
    omega
  simp only [fetchByte, storeByte_region hp h5 hlt, hp, if_neg hnc]

theorem lastByte_complete (hp : s.phase = .rxbody) (hn : s.rxcnt.toNat = 5 + s.rxlen.toNat) :
    replyComplete (pullByte b (storeChecksum b s)) = true := by
  rw [replyComplete_iff]
  refine ⟨hp, ?_⟩
  simp only [pullByte_rxcnt, storeChecksum_rxcnt, pullByte_rxlen, storeChecksum_rxlen, toNat_rxcnt_succ hn.le]
  omega

theorem fetchByte_checksum {r : List Byte} (hp : s.phase = .rxbody) (hn : s.rxcnt.toNat = 5 + s.rxlen.toNat)
    (hr : rxRegion s = some r) :
    fetchByte b s = .run (instrOfRegion s.rxlen r) (pullByte b (storeChecksum b s)) := by
  have hr' : rxRegion (pullByte b (storeChecksum b s)) = some r := hr
  simp only [fetchByte, storeByte_checksum hp hn, hp, if_pos (lastByte_complete hp hn), fetchRegion, hr']
  rfl

/-- A body byte before the last takes its place in RXBUF (R125, R171). -/
theorem step_bodyByte (he : nextEvent s = some (.rxByte b, s1)) (hp : s1.phase = .rxbody) (h5 : 5 ≤ s1.rxcnt.toNat)
    (hlt : s1.rxcnt.toNat < 5 + s1.rxlen.toNat) :
    step s = .next (pullByte b (storeRegion (s1.rxcnt.toNat - 5) b s1)) :=
  step_of_fetch_pass he (fetchByte_region hp h5 hlt)

/-- `act` is what the meaning of the row that the region `r` is read as does past the validator. -/
def RegionRuns (len : Half) (r : List Byte) (act : State → State) : Prop :=
  (∀ s : State, s.rxlen = len → s.phase = .rxbody → exec (instrOfRegion len r) s = endReply act s) ∧ RegionDoes r act

theorem regionRuns_of_rxRegion {r : List Byte} (hr : rxRegion s = some r) : ∃ act, RegionRuns s.rxlen r act := by
  obtain ⟨hlen, -⟩ := (readAll_eq_some _ _ _ _).mp hr
  exact exec_instrOfRegion s.rxlen r hlen

theorem endReply_lastByte (act : State → State) (hp : s.phase = .rxbody) (hn : s.rxcnt.toNat = 5 + s.rxlen.toNat) :
    endReply act (pullByte b (storeChecksum b s)) = .next (lastByte act b s) :=
  if_pos (lastByte_complete hp hn)

/-- The last byte of a frame runs the region in RXBUF (R126 to R132, R171). -/
theorem step_lastByte {r : List Byte} {act : State → State} (he : nextEvent s = some (.rxByte b, s1))
    (hp : s1.phase = .rxbody) (hn : s1.rxcnt.toNat = 5 + s1.rxlen.toNat) (hr : rxRegion s1 = some r)
    (ha : RegionRuns s1.rxlen r act) : step s = .next (lastByte act b s1) := by
  rw [step_of_fetch_run he (fetchByte_checksum hp hn hr), ← endReply_lastByte act hp hn]
  exact ha.1 _ rfl hp

end

/-- Settles O19: the byte is written at its own address and at no other. -/
theorem bodyByteStored : Obligations.BodyByteStored := by
  intro s s1 b hp h5 hlt he
  obtain ⟨-, pre, post, -, rfl, -⟩ := nextEvent_some he
  exact ⟨_, step_bodyByte he hp h5 hlt, rfl, fun a => read_write _ _ _ _⟩

theorem receivingBody_of_inv {s : State} (h : Inv s) (hp : s.phase = .rxbody) : receivingBody s := by
  obtain ⟨-, -, -, -, -, -, -, -, hbody⟩ := h
  exact hbody hp

/-- With all of the region in, RXSUM sums the header and the region in RXBUF. -/
theorem receivingBody.region {s : State} (h : receivingBody s) (hn : s.rxcnt.toNat = 5 + s.rxlen.toNat) :
    ∃ r, rxRegion s = some r ∧ s.rxsum = sum8 (s.rxhdr.bytes ++ r) := by
  obtain ⟨-, -, -, r, hr, hsum⟩ := h
  rw [hn, Nat.add_sub_cancel_left] at hr
  exact ⟨r, hr, hsum⟩

/-- Settles O20: the region's meaning ends the RECV with the response of DecodeReply's outcome, and ending writes no
other register. -/
theorem lastByteEndsReply : Obligations.LastByteEndsReply := by
  intro s s1 b hinv hp hn he
  obtain ⟨r, hr, hsum⟩ := (receivingBody_of_inv hinv hp).region hn
  obtain ⟨act, ha⟩ := regionRuns_of_rxRegion hr
  obtain ⟨-, pre, post, -, rfl, -⟩ := nextEvent_some he
  have hstep := step_lastByte he hp hn hr ha
  have hframe : sum8 (s.rxhdr.bytes ++ r ++ [b]) = s.rxsum + b := by rw [sum8_append_singleton, hsum]
  have hresp := lastByte_responses ha.2 (b := b) (s := { s with sched := pre ++ post }) hframe
  obtain ⟨c, st, hends⟩ := lastByte_ends ha.2 b { s with sched := pre ++ post }
  refine ⟨r, _, hr, hstep, hends.phase_idle, hresp, ?_⟩
  generalize lastByte act b { s with sched := pre ++ post } = t at hends
  cases hends <;>
    exact ⟨rfl, rfl, rfl, rfl, rfl, rfl, rfl, rfl, rfl, rfl, rfl, rfl, rfl, rfl, rfl, rfl, rfl, rfl⟩

/-- What a region does past the validator does not look at the checksum byte. -/
theorem RegionDoes.ignores_checksum {r : List Byte} {act : State → State} (h : RegionDoes r act) (s : State)
    (cs sum : Byte) (pulled : List Byte) :
    act { s with rxcs := cs, rxsum := sum, rxPulled := pulled } =
      { act s with rxcs := cs, rxsum := sum, rxPulled := pulled } := by
  cases h <;> rfl

theorem step_lastByte_unchecked {s s1 : State} {b : Byte} {r : List Byte} {act : State → State}
    (he : nextEvent s = some (.rxByte b, s1)) (hp : s1.phase = .rxbody) (hn : s1.rxcnt.toNat = 5 + s1.rxlen.toNat)
    (hr : rxRegion s1 = some r) (ha : RegionRuns s1.rxlen r act) (hk : s1.rxck = false) :
    step s = .next (act (pullByte b (storeChecksum b s1))) := by
  rw [step_lastByte he hp hn hr ha, lastByte, hk]
  rfl

/-- Settles O27: with RXCK = 0 the last byte does what the region does, for either byte. -/
theorem checksumByteIgnoredWhenOff : Obligations.ChecksumByteIgnoredWhenOff := by
  intro s b b' rest hinv hp hn hk hs
  obtain ⟨r, hr, -⟩ := (receivingBody_of_inv hinv hp).region hn
  obtain ⟨act, ha⟩ := regionRuns_of_rxRegion hr
  have he : nextEvent s = some (.rxByte b, { s with sched := rest }) := nextEvent_head hs (by rw [hp]; rfl)
  have he' : nextEvent { s with sched := .rxByte b' :: rest } = some (.rxByte b', { s with sched := rest }) :=
    nextEvent_head rfl (by rw [hp]; rfl)
  refine ⟨_, step_lastByte_unchecked he hp hn hr ha hk, ?_⟩
  rw [step_lastByte_unchecked he' hp hn hr ha hk]
  exact congrArg _ (ha.2.ignores_checksum (pullByte b (storeChecksum b { s with sched := rest })) b' (s.rxsum + b')
    (s.rxPulled ++ [b']))

end Sys2Proof.Machine
end

section
/-! PROOFS. The invariant of every run, the canonical form of the buffers, and that no step faults
(spec/10_state.md sections 3, 4, 8 and 9, spec/42_addressing.md section 2). -/

namespace Sys2Proof.Machine

/-! ### The canonical form of the buffers -/

theorem Ends.canonical {s t : State} (h : Ends s t) (hs : canonical s) : canonical t := by
  cases h <;> exact hs

theorem canonical_resetBlock (g d : Byte) (k : Bool) (s : State) : canonical (resetBlock g d k s) :=
  ⟨rfl, rfl⟩

/-- The longest frame fills TXBUF (R42). -/
theorem canonical_startFrame {p : List Byte} (hl : p.length ≤ Config.txMax) {s : State} (h : canonical s) :
    canonical (startFrame p s) := by
  refine ⟨wf_writeAll _ _ _ _ h.1 ?_, h.2⟩
  simp only [Config.txMax] at hl
  rw [length_encodeFrame, Config.txbufSize]
  omega

/-- The longest region fills RXBUF (R43). -/
theorem canonical_storeRegion {s : State} (b : Byte) (h : canonical s) (h5 : 5 ≤ s.rxcnt.toNat)
    (hlt : s.rxcnt.toNat < 5 + s.rxlen.toNat) : canonical (storeRegion (s.rxcnt.toNat - 5) b s) := by
  have hlen := s.rxlen.isLt
  refine ⟨h.1, wf_write _ _ _ _ h.2 ?_⟩
  rw [Config.rxbufSize]
  omega

theorem Effect.canonical {s t : State} {e : Event} (he : Effect s e t) (h : canonical s) : canonical t := by
  cases he with
  | reset g d k => exact canonical_resetBlock g d k s
  | sendStarts p _ hl => exact canonical_startFrame hl h
  | bodyByte b _ h5 hlt => exact canonical_storeRegion b h h5 hlt
  | replyEnds b r act _ _ _ ha =>
    obtain ⟨c, st, hends⟩ := lastByte_ends ha b s
    exact hends.canonical h
  | _ => exact h

/-- Settles O39: of what an event can do, only the start of a frame and a body byte write a buffer, both inside it. -/
theorem canonicalFormKept : Obligations.CanonicalFormKept := by
  intro s t h hstep
  obtain ⟨e, s1, he, heff⟩ := step_takes_event hstep
  obtain ⟨-, pre, post, -, rfl, -⟩ := nextEvent_some he
  exact heff.canonical h

/-! ### The invariant, apart from the phases and phase by phase -/

/-- What the invariant says in every phase (R35, R36, R39, R42, R43, R104, R133, R240). -/
structure AtRest (s : State) : Prop where
  buffers : canonical s
  code_le : s.errcode.toNat ≤ 8
  info_zero : s.errcode = 0 → s.errinfo = 0
  rlen_eq : s.rlen = s.rxlen
  txsum_zero : s.txcnt = s.txlen → s.txsum = 0
  rxcnt_zero : s.daddr ≠ Config.direct → s.rxcnt = 0

/-- What the invariant says of the phase the block is in (R24, R154). -/
def PhaseInv (s : State) : Prop :=
  match s.phase with
  | .idle => True
  | .tx => transmitting s
  | .rxhdr => s.daddr = Config.direct ∧ receivingHeader s
  | .rxbody => s.daddr = Config.direct ∧ receivingBody s

theorem inv_iff (s : State) : Inv s ↔ AtRest s ∧ PhaseInv s := by
  constructor
  · rintro ⟨hbuf, hcode, hinfo, hrlen, hsum, hdirect, htx, hhdr, hbody⟩
    refine ⟨⟨hbuf, hcode, hinfo, hrlen, hsum, fun hd => (hdirect hd).1⟩, ?_⟩
    unfold PhaseInv
    split
    · trivial
    · next hp => exact htx hp
    · next hp => exact ⟨by_contra fun hd => (hdirect hd).2.1 hp, hhdr hp⟩
    · next hp => exact ⟨by_contra fun hd => (hdirect hd).2.2 hp, hbody hp⟩
  · rintro ⟨⟨hbuf, hcode, hinfo, hrlen, hsum, hcnt⟩, hph⟩
    refine ⟨hbuf, hcode, hinfo, hrlen, hsum, fun hd => ⟨hcnt hd, fun hp => ?_, fun hp => ?_⟩, fun hp => ?_,
      fun hp => ?_, fun hp => ?_⟩ <;> simp only [PhaseInv, hp] at hph
    · exact hd hph.1
    · exact hd hph.1
    · exact hph
    · exact hph.2
    · exact hph.2

theorem inv_of_idle {s : State} (h : AtRest s) (hp : s.phase = .idle) : Inv s :=
  (inv_iff s).mpr ⟨h, by simp only [PhaseInv, hp]⟩

theorem inv_of_tx {s : State} (h : AtRest s) (hp : s.phase = .tx) (ht : transmitting s) : Inv s :=
  (inv_iff s).mpr ⟨h, by simpa only [PhaseInv, hp] using ht⟩

theorem inv_of_rxhdr {s : State} (h : AtRest s) (hp : s.phase = .rxhdr) (hd : s.daddr = Config.direct)
    (hr : receivingHeader s) : Inv s :=
  (inv_iff s).mpr ⟨h, by simpa only [PhaseInv, hp] using ⟨hd, hr⟩⟩

theorem inv_of_rxbody {s : State} (h : AtRest s) (hp : s.phase = .rxbody) (hd : s.daddr = Config.direct)
    (hr : receivingBody s) : Inv s :=
  (inv_iff s).mpr ⟨h, by simpa only [PhaseInv, hp] using ⟨hd, hr⟩⟩

theorem Inv.atRest {s : State} (h : Inv s) : AtRest s := ((inv_iff s).mp h).1

theorem Inv.direct_of_receiving {s : State} (h : Inv s) (hp : s.phase = .rxhdr ∨ s.phase = .rxbody) :
    s.daddr = Config.direct := by
  obtain ⟨-, hph⟩ := (inv_iff s).mp h
  rcases hp with hp | hp <;> (simp only [PhaseInv, hp] at hph; exact hph.1)

/-! ### The shared operations keep what holds at rest -/

theorem error_code_le (e : Error) : e.code.toNat ≤ 8 := by
  cases e <;> decide

theorem error_code_ne_zero (e : Error) : e.code ≠ 0 := by
  cases e <;> decide

theorem AtRest.clearError {s : State} (h : AtRest s) : AtRest (clearError s) :=
  { h with code_le := Nat.zero_le 8, info_zero := fun _ => rfl }

theorem AtRest.raise {s : State} (h : AtRest s) (e : Error) (info : Half) : AtRest (raise e info s) :=
  { h with code_le := error_code_le e, info_zero := fun h0 => absurd h0 (error_code_ne_zero e) }

theorem AtRest.ends {s t : State} (h : AtRest s) (ht : Ends s t) : AtRest t := by
  cases ht with
  | answers r _ => exact { h with }
  | raises e info => exact h.raise e info

/-- A byte is pulled only where a reply is expected, and there RXCNT is free. -/
theorem AtRest.pullByte {s : State} (h : AtRest s) (hd : s.daddr = Config.direct) (b : Byte) :
    AtRest (pullByte b s) :=
  { h with rxcnt_zero := fun hnd => absurd hd hnd }

theorem AtRest.headerByte {s : State} (h : AtRest s) (hd : s.daddr = Config.direct) (b : Byte) (h' : RxHdr) :
    AtRest (Machine.pullByte b (storeHeader h' s)) :=
  ({ h with } : AtRest (storeHeader h' s)).pullByte hd b

theorem AtRest.regionByte {s : State} (h : AtRest s) (hd : s.daddr = Config.direct) (b : Byte)
    (h5 : 5 ≤ s.rxcnt.toNat) (hlt : s.rxcnt.toNat < 5 + s.rxlen.toNat) :
    AtRest (Machine.pullByte b (storeRegion (s.rxcnt.toNat - 5) b s)) :=
  ({ h with buffers := canonical_storeRegion b h.buffers h5 hlt } :
    AtRest (storeRegion (s.rxcnt.toNat - 5) b s)).pullByte hd b

/-- The checksum byte, with whatever code and status the end of the reply notes. -/
theorem AtRest.lastByte {s : State} (h : AtRest s) (hd : s.daddr = Config.direct) (b : Byte) (c : Half) (st : Byte) :
    AtRest (noted c st (Machine.pullByte b (storeChecksum b s))) :=
  { h with rxcnt_zero := fun hnd => absurd hd hnd }

theorem atRest_resetBlock (g d : Byte) (k : Bool) (s : State) : AtRest (resetBlock g d k s) where
  buffers := canonical_resetBlock g d k s
  code_le := Nat.zero_le 8
  info_zero _ := rfl
  rlen_eq := rfl
  txsum_zero _ := rfl
  rxcnt_zero _ := rfl

theorem AtRest.startFrame {s : State} (h : AtRest s) {p : List Byte} (hl : p.length ≤ Config.txMax) :
    AtRest (startFrame p s) :=
  { h with buffers := canonical_startFrame hl h.buffers, txsum_zero := fun _ => rfl }

theorem AtRest.startReply {s : State} (h : AtRest s) : AtRest (startReply s) :=
  { h with rxcnt_zero := fun _ => rfl }

/-! ### A frame in transmission -/

theorem transmitting_startFrame {p : List Byte} (hl : p.length ≤ Config.txMax) (s : State) :
    transmitting (startFrame p s) := by
  have hlen := toNat_startFrame_txlen hl s
  exact ⟨p, hl, hlen, by rw [hlen]; exact Nat.succ_pos _, txFrame_startFrame hl s, rfl⟩

/-- A byte pushed is counted without overflow, and TXSUM sums it in. -/
theorem transmitting.push {s : State} (h : transmitting s) {f : List Byte} {b : Byte} (hf : txFrame s = some f)
    (hb : f[s.txcnt.toNat]? = some b) :
    (s.txcnt + 1).toNat = s.txcnt.toNat + 1 ∧ s.txsum + b = sum8 (f.take (s.txcnt.toNat + 1)) := by
  obtain ⟨p, hl, hlen, hlt, hframe, hsum⟩ := h
  obtain rfl : f = encodeFrame s.gaddr s.daddr p := Option.some.inj (hf.symm.trans hframe)
  exact ⟨by bv_omega, by rw [hsum, sum8_take_succ hb]⟩

/-- With the last byte the frame's sum is 0 (R104). -/
theorem transmitting.txsum_of_last {s : State} (h : transmitting s) {f : List Byte} {b : Byte}
    (hf : txFrame s = some f) (hb : f[s.txcnt.toNat]? = some b) (hl : s.txcnt + 1 = s.txlen) : s.txsum + b = 0 := by
  obtain ⟨hcnt, hsum⟩ := h.push hf hb
  obtain ⟨p, -, hlen, -, hframe, -⟩ := h
  obtain rfl : f = encodeFrame s.gaddr s.daddr p := Option.some.inj (hf.symm.trans hframe)
  have hall : (encodeFrame s.gaddr s.daddr p).length ≤ s.txcnt.toNat + 1 := by
    rw [length_encodeFrame, ← hlen, ← hcnt, hl]
  rw [hsum, List.take_of_length_le hall, sum8_encodeFrame]

theorem transmitting.pushByte {s : State} (h : transmitting s) {f : List Byte} {b : Byte} (hf : txFrame s = some f)
    (hb : f[s.txcnt.toNat]? = some b) (hl : s.txcnt + 1 ≠ s.txlen) : transmitting (pushByte b s) := by
  obtain ⟨hcnt, hsum⟩ := h.push hf hb
  obtain ⟨p, hp, hlen, hlt, hframe, -⟩ := h
  obtain rfl : f = encodeFrame s.gaddr s.daddr p := Option.some.inj (hf.symm.trans hframe)
  have hne : (s.txcnt + 1).toNat ≠ s.txlen.toNat := mt BitVec.eq_of_toNat_eq hl
  refine ⟨p, hp, hlen, ?_, hframe, ?_⟩
  · rw [pushByte_txcnt, pushByte_txlen]
    omega
  · rw [pushByte_txsum, pushByte_txcnt, hcnt]
    exact hsum

theorem AtRest.pushByte {s : State} (h : AtRest s) {b : Byte} (hsum : s.txcnt + 1 = s.txlen → s.txsum + b = 0) :
    AtRest (pushByte b s) :=
  { h with txsum_zero := hsum }

/-! ### A reply's header and body -/

@[simp] theorem length_rxHdr_bytes (h : RxHdr) : h.bytes.length = 5 := rfl

/-- A header byte stored at RXCNT is the next byte of those that are in (R121). -/
theorem take_succ_bytes_of_set {h h' : RxHdr} {n : Nat} {b : Byte} (hs : h.set n b = some h') :
    h'.bytes.take (n + 1) = h.bytes.take n ++ [b] := by
  obtain ⟨hn, hbytes⟩ := set_bytes hs
  have hget : (h.bytes.set n b)[n]? = some b := List.getElem?_set_self (by rwa [length_rxHdr_bytes])
  rw [hbytes, List.take_add_one, hget, List.take_set_of_le (Nat.le_refl n)]
  rfl

theorem receivingHeader.rxsum_add {s : State} (h : receivingHeader s) {h' : RxHdr} {b : Byte}
    (hs : s.rxhdr.set s.rxcnt.toNat b = some h') :
    (s.rxcnt + 1).toNat = s.rxcnt.toNat + 1 ∧ s.rxsum + b = sum8 (h'.bytes.take (s.rxcnt.toNat + 1)) := by
  obtain ⟨hlt, hsum⟩ := h
  exact ⟨by bv_omega, by rw [take_succ_bytes_of_set hs, sum8_append_singleton, hsum]⟩

theorem receivingHeader_startReply (s : State) : receivingHeader (startReply s) :=
  ⟨Nat.zero_lt_succ 4, rfl⟩

theorem receivingHeader.headerByte {s : State} (h : receivingHeader s) {h' : RxHdr} {b : Byte}
    (hs : s.rxhdr.set s.rxcnt.toNat b = some h') (hn : (s.rxcnt + 1).toNat ≠ 5) :
    receivingHeader (Machine.pullByte b (storeHeader h' s)) := by
  obtain ⟨hcnt, hsum⟩ := h.rxsum_add hs
  obtain ⟨hlt, -⟩ := h
  simp only [receivingHeader, pullByte_rxcnt, storeHeader_rxcnt, pullByte_rxsum, storeHeader_rxsum, pullByte_rxhdr,
    storeHeader_rxhdr]
  exact ⟨by omega, by rw [hcnt]; exact hsum⟩

/-- A header that passes both checks is the header of its length (R122 to R124). -/
theorem bytes_eq_headerBytes {h : RxHdr} (ht : h.tag = Config.tagRx) (hd : le16 h.devLo h.devHi = Config.devId) :
    h.bytes = headerBytes (le16 h.lenLo h.lenHi) := by
  rw [headerBytes, ← hd, ← ht, lo8_le16, hi8_le16, lo8_le16, hi8_le16, RxHdr.bytes]

theorem receivingHeader.headerDone {s : State} (h : receivingHeader s) {h' : RxHdr} {b : Byte}
    (hs : s.rxhdr.set s.rxcnt.toNat b = some h') (hn : (s.rxcnt + 1).toNat = 5) (ht : h'.tag = Config.tagRx)
    (hd : le16 h'.devLo h'.devHi = Config.devId) :
    receivingBody (acceptHeader (le16 h'.lenLo h'.lenHi) (Machine.pullByte b (storeHeader h' s))) := by
  obtain ⟨hcnt, hsum⟩ := h.rxsum_add hs
  refine ⟨bytes_eq_headerBytes ht hd, hn.ge, hn.le.trans (Nat.le_add_right _ _), [], ?_, ?_⟩
  · simp only [acceptHeader_rxcnt, pullByte_rxcnt, storeHeader_rxcnt, hn]
    rfl
  · rw [← hcnt, hn, List.take_of_length_le (length_rxHdr_bytes h').le] at hsum
    rw [List.append_nil]
    exact hsum

theorem receivingBody.bodyByte {s : State} (h : receivingBody s) (b : Byte) (hlt : s.rxcnt.toNat < 5 + s.rxlen.toNat) :
    receivingBody (Machine.pullByte b (storeRegion (s.rxcnt.toNat - 5) b s)) := by
  obtain ⟨hhdr, h5, -, r, hr, hsum⟩ := h
  have hcnt := toNat_rxcnt_succ hlt.le
  refine ⟨hhdr, ?_, ?_, r ++ [b], ?_, ?_⟩
  · rw [pullByte_rxcnt, storeRegion_rxcnt, hcnt]
    omega
  · rw [pullByte_rxcnt, storeRegion_rxcnt, hcnt]
    exact hlt
  · rw [pullByte_rxcnt, storeRegion_rxcnt, hcnt, Nat.sub_add_comm h5]
    exact readAll_write_next s.rxbuf _ r b hr
  · rw [pullByte_rxsum, storeRegion_rxsum, hsum, ← sum8_append_singleton, List.append_assoc]
    rfl

/-! ### Every step keeps the invariant -/

theorem Effect.inv {s t : State} {e : Event} (he : Effect s e t) (h : Inv s) : Inv t := by
  have hrest := h.atRest
  cases he with
  | reset g d k => exact inv_of_idle (atRest_resetBlock g d k s) rfl
  | sendRefused p _ _ => exact inv_of_idle (hrest.clearError.raise .argumentError 0) rfl
  | sendStarts p _ hl => exact inv_of_tx (hrest.clearError.startFrame hl) rfl (transmitting_startFrame hl _)
  | recvRefused _ _ => exact inv_of_idle (hrest.clearError.raise .noReply _) rfl
  | recvStarts _ hd => exact inv_of_rxhdr hrest.clearError.startReply rfl hd (receivingHeader_startReply _)
  | reads n _ => exact inv_of_idle (hrest.ends (.answers _ nofun)) rfl
  | pushes f b hp hf hb hl =>
    exact inv_of_tx (hrest.pushByte fun hlast => absurd hlast hl) hp
      ((transmitting_of_inv h hp).pushByte hf hb hl)
  | pushesLast f b hp hf hb hl =>
    have hsum := (transmitting_of_inv h hp).txsum_of_last hf hb hl
    exact inv_of_idle ((hrest.pushByte fun _ => hsum).ends (.answers .sent nofun)) rfl
  | fails k => exact inv_of_idle (hrest.raise .transportError k.code) rfl
  | headerByte b h' hp hs hn =>
    have hd := h.direct_of_receiving (.inl hp)
    exact inv_of_rxhdr (hrest.headerByte hd b h') hp hd
      ((receivingHeader_of_inv h hp).headerByte hs hn)
  | badHeader b h' hp _ _ _ =>
    have hd := h.direct_of_receiving (.inl hp)
    exact inv_of_idle ((hrest.headerByte hd b h').raise .badHeader _) rfl
  | badDeviceId b h' hp _ _ _ _ =>
    have hd := h.direct_of_receiving (.inl hp)
    exact inv_of_idle ((hrest.headerByte hd b h').raise .badDeviceId _) rfl
  | headerDone b h' hp hs hn ht hid =>
    have hd := h.direct_of_receiving (.inl hp)
    exact inv_of_rxbody { hrest.headerByte hd b h' with rlen_eq := rfl } rfl hd
      ((receivingHeader_of_inv h hp).headerDone hs hn ht hid)
  | bodyByte b hp h5 hlt =>
    have hd := h.direct_of_receiving (.inr hp)
    exact inv_of_rxbody (hrest.regionByte hd b h5 hlt) hp hd ((receivingBody_of_inv h hp).bodyByte b hlt)
  | replyEnds b r act hp _ _ ha =>
    have hd := h.direct_of_receiving (.inr hp)
    obtain ⟨c, st, hends⟩ := lastByte_ends ha b s
    exact inv_of_idle ((hrest.lastByte hd b c st).ends hends) hends.phase_idle

/-- The events that wait are no part of the invariant. -/
theorem Inv.withSched {s : State} (h : Inv s) (es : List Event) : Inv { s with sched := es } := h

/-- Settles O36: effect by effect, each operation keeps what holds at rest, and each busy phase is entered and gone on
with as R24 says. -/
theorem invKeptByEveryStep : Obligations.InvKeptByEveryStep := by
  intro s t h hstep
  obtain ⟨e, s1, he, heff⟩ := step_takes_event hstep
  obtain ⟨-, pre, post, -, rfl, -⟩ := nextEvent_some he
  exact heff.inv (h.withSched _)

/-- Settles O37: in IDLE the invariant asks for what holds at rest, and there all registers are 0. -/
theorem invHoldsAtReset : Obligations.InvHoldsAtReset := by
  have hreset (g d : Byte) (k : Bool) (h : RxHdr) :
      Inv { State.reset with gaddr := g, daddr := d, rxck := k, rxhdr := h } :=
    inv_of_idle ⟨⟨rfl, rfl⟩, Nat.zero_le 8, fun _ => rfl, rfl, fun _ => rfl, fun _ => rfl⟩ rfl
  exact fun g d k h => ⟨hreset g d k h, hreset _ _ _ _⟩

/-! ### No step faults -/

theorem phase_receiving_of_nextEvent_rxByte {s s1 : State} {b : Byte} (he : nextEvent s = some (.rxByte b, s1)) :
    s.phase = .rxhdr ∨ s.phase = .rxbody := by
  obtain ⟨hen, -⟩ := nextEvent_some he
  simpa [enabled] using hen

theorem acceptSend_answers {s : State} (hp : s.phase = .idle) (p : List Byte) : ∃ t, acceptSend p s = .next t := by
  by_cases hl : p.length ≤ Config.txMax
  · exact ⟨_, acceptSend_of_fits hp hl⟩
  · exact ⟨_, acceptSend_of_oversized hp (Nat.not_le.mp hl)⟩

theorem acceptRecv_answers {s : State} (hp : s.phase = .idle) : ∃ t, acceptRecv s = .next t := by
  by_cases hd : s.daddr = Config.direct
  · exact ⟨_, acceptRecv_of_direct hp hd⟩
  · exact ⟨_, acceptRecv_of_not_direct hp hd⟩

/-- A received byte always has its place and its effect (R170, R171). -/
theorem step_rxByte_next_of_inv {s s1 : State} {b : Byte} (h : Inv s) (he : nextEvent s = some (.rxByte b, s1)) :
    ∃ t, step s = .next t := by
  rcases phase_receiving_of_nextEvent_rxByte he with hp | hp
  · obtain ⟨hlt, -⟩ := receivingHeader_of_inv h hp
    obtain ⟨h', s2, -, -, hearly, htag, hdev, hgood⟩ := headerByteStep s s1 b h hp he
    by_cases hn : s.rxcnt.toNat = 4
    · by_cases ht : h'.tag = 0xAB
      · by_cases hd : le16 h'.devLo h'.devHi = 0x0001
        · exact ⟨_, hgood hn ht hd⟩
        · exact ⟨_, hdev hn ht hd⟩
      · exact ⟨_, htag hn ht⟩
    · exact ⟨s2, hearly (by omega)⟩
  · obtain ⟨-, h5, hle, -⟩ := receivingBody_of_inv h hp
    by_cases hn : s.rxcnt.toNat = 5 + s.rxlen.toNat
    · obtain ⟨-, t, -, hstep, -⟩ := lastByteEndsReply s s1 b h hp hn he
      exact ⟨t, hstep⟩
    · obtain ⟨t, hstep, -⟩ := bodyByteStored s s1 b hp h5 (by omega) he
      exact ⟨t, hstep⟩

/-- With the invariant, every event that is taken has its next state. -/
theorem step_next_of_inv {s s1 : State} {e : Event} (h : Inv s) (he : nextEvent s = some (e, s1)) :
    ∃ t, step s = .next t := by
  obtain ⟨hen, pre, post, -, hs1, -⟩ := nextEvent_some he
  have hph : s1.phase = s.phase := by rw [hs1]
  cases e with
  | reset g d k => exact ⟨_, (step_of_fetch_run he rfl).trans rfl⟩
  | reqSend p =>
    rw [step_reqSend he]
    exact acceptSend_answers (hph.trans (phase_idle_of_nextEvent_reqSend he)) p
  | reqRecv =>
    rw [step_of_fetch_run he rfl]
    exact acceptRecv_answers (hph.trans (by simpa [enabled] using hen))
  | reqRdcr n =>
    rw [step_of_fetch_run he rfl]
    exact ⟨_, exec_rdcr (hph.trans (by simpa [enabled] using hen)) n⟩
  | txAcc =>
    obtain ⟨b, -, hstep⟩ := transferPushesBufferByte s s1 h he
    exact ⟨_, hstep⟩
  | rxByte b => exact step_rxByte_next_of_inv h he
  | xfail k => exact ⟨_, step_of_fetch_pass he rfl⟩

/-- Settles O38: a step takes an event and then has a next state, or takes none and is refused. -/
theorem noFaultFromInvariant : Obligations.NoFaultFromInvariant := by
  intro s f h hstep
  cases he : nextEvent s with
  | none => simp [step, he] at hstep
  | some x =>
    obtain ⟨t, ht⟩ := step_next_of_inv h (s1 := x.2) (e := x.1) he
    exact absurd (ht.symm.trans hstep) nofun

end Sys2Proof.Machine
end

section
/-! PROOFS. What a step may do, whatever the event: the end of an operation, DESYNC, the configuration, the streams
and the reply's registers, the events that take no step, and the rows that events fetch (spec/10_state.md,
spec/20_memory.md, spec/43_sequencer.md, spec/60_exceptions.md section 6). -/

namespace Sys2Proof.Machine

/-! ### An operation goes on or ends -/

theorem Ends.config {s t : State} (h : Ends s t) : t.gaddr = s.gaddr ∧ t.daddr = s.daddr ∧ t.rxck = s.rxck := by
  cases h <;> exact ⟨rfl, rfl, rfl⟩

theorem Ends.streams {s t : State} (h : Ends s t) : t.txStream = s.txStream ∧ t.rxPulled = s.rxPulled := by
  cases h <;> exact ⟨rfl, rfl⟩

/-- Nothing is answered, and a busy phase stays or goes on from RXHDR to RXBODY. -/
structure GoesOn (s t : State) : Prop where
  responses : t.responses = s.responses
  desync : t.desync = s.desync
  phase : s.phase = .idle ∨ t.phase = s.phase ∨ s.phase = .rxhdr ∧ t.phase = .rxbody

/-- Outside RESET an event either goes on or ends an operation, with all that came before in place (R172). -/
theorem Effect.goesOn_or_ends {s t : State} {e : Event} (he : Effect s e t) (hr : e.isReset = false) :
    GoesOn s t ∨ ∃ s', Ends s' t ∧ s'.responses = s.responses ∧ s'.desync = s.desync := by
  cases he with
  | reset g d k => cases hr
  | sendRefused _ _ _ => exact .inr ⟨clearError s, .raises _ _, rfl, rfl⟩
  | sendStarts _ hp _ => exact .inl ⟨rfl, rfl, .inl hp⟩
  | recvRefused _ _ => exact .inr ⟨clearError s, .raises _ _, rfl, rfl⟩
  | recvStarts hp _ => exact .inl ⟨rfl, rfl, .inl hp⟩
  | reads _ _ => exact .inr ⟨s, .answers _ nofun, rfl, rfl⟩
  | pushes _ _ _ _ _ _ => exact .inl ⟨rfl, rfl, .inr (.inl rfl)⟩
  | pushesLast _ b _ _ _ _ => exact .inr ⟨pushByte b s, .answers .sent nofun, rfl, rfl⟩
  | fails k => exact .inr ⟨s, .raises _ _, rfl, rfl⟩
  | headerByte _ _ _ _ _ => exact .inl ⟨rfl, rfl, .inr (.inl rfl)⟩
  | badHeader b h _ _ _ _ => exact .inr ⟨pullByte b (storeHeader h s), .raises _ _, rfl, rfl⟩
  | badDeviceId b h _ _ _ _ _ => exact .inr ⟨pullByte b (storeHeader h s), .raises _ _, rfl, rfl⟩
  | headerDone _ _ hp _ _ _ _ => exact .inl ⟨rfl, rfl, .inr (.inr ⟨hp, rfl⟩)⟩
  | bodyByte _ _ _ _ => exact .inl ⟨rfl, rfl, .inr (.inl rfl)⟩
  | replyEnds b r act _ _ _ ha =>
    obtain ⟨c, st, hends⟩ := lastByte_ends ha b s
    exact .inr ⟨_, hends, rfl, rfl⟩

/-- Settles O41: a busy phase goes on, or the operation ends with the one response of its end. -/
theorem operationEndsWithOneResponse : Obligations.OperationEndsWithOneResponse := by
  intro s s1 t e he hstep hr hbusy
  have heff := effect_of_step he hstep
  obtain ⟨-, pre, post, -, rfl, -⟩ := nextEvent_some he
  rcases heff.goesOn_or_ends hr with hon | ⟨s', hends, hresp, -⟩
  · exact .inl ⟨hon.phase.resolve_left hbusy, hon.responses⟩
  · obtain ⟨r, ht⟩ := hends.responses
    exact .inr ⟨hends.phase_idle, r, by rw [ht, hresp]⟩

/-! ### DESYNC is set by five errors -/

theorem error_desyncs_iff (e : Error) :
    e.desyncs = true ↔ e.code = 1 ∨ e.code = 2 ∨ e.code = 4 ∨ e.code = 6 ∨ e.code = 7 := by
  cases e <;> decide

/-- The step answers an ERR of BadHeader, BadDeviceId, TransportError, ChecksumMismatch or ShortFrame. -/
def AnswersDesync (s t : State) : Prop :=
  ∃ (c : BitVec 4) (info : Half), t.responses = s.responses ++ [.err c info] ∧
    (c = 1 ∨ c = 2 ∨ c = 4 ∨ c = 6 ∨ c = 7)

theorem Ends.desync_iff {s t : State} (h : Ends s t) : t.desync = true ↔ s.desync = true ∨ AnswersDesync s t := by
  cases h with
  | answers r hr =>
    have hno : ¬AnswersDesync s (endOperation r s) := by
      rintro ⟨c, info, hresp, -⟩
      exact hr c info (List.singleton_inj.mp (List.append_cancel_left hresp))
    rw [endOperation_desync, or_iff_left hno]
  | raises e info =>
    have hans : AnswersDesync s (raise e info s) ↔ e.desyncs = true := by
      rw [error_desyncs_iff]
      constructor
      · rintro ⟨c, info', hresp, hc⟩
        cases List.singleton_inj.mp (List.append_cancel_left hresp)
        exact hc
      · exact fun hc => ⟨e.code, info, rfl, hc⟩
    rw [raise_desync, Bool.or_eq_true, hans]

/-- Settles O33: DESYNC changes with the response that ends an operation, and only by raising. -/
theorem desyncSetByFiveErrors : Obligations.DesyncSetByFiveErrors := by
  intro s s1 t e he hstep hr
  have heff := effect_of_step he hstep
  obtain ⟨-, pre, post, -, rfl, -⟩ := nextEvent_some he
  change t.desync = true ↔ s.desync = true ∨ AnswersDesync s t
  rcases heff.goesOn_or_ends hr with hon | ⟨s', hends, hresp, hdesync⟩
  · have hno : ¬AnswersDesync s t := by
      rintro ⟨c, info, ht, -⟩
      rw [hon.responses] at ht
      simp at ht
    rw [hon.desync, or_iff_left hno]
  · have hiff := hends.desync_iff
    rwa [hdesync, AnswersDesync, hresp] at hiff

/-! ### What is written by which events -/

theorem Effect.config {s t : State} {e : Event} (he : Effect s e t) (hr : e.isReset = false) :
    t.gaddr = s.gaddr ∧ t.daddr = s.daddr ∧ t.rxck = s.rxck := by
  cases he with
  | reset g d k => cases hr
  | replyEnds b r act _ _ _ ha =>
    obtain ⟨c, st, hends⟩ := lastByte_ends ha b s
    exact hends.config
  | _ => exact ⟨rfl, rfl, rfl⟩

/-- Settles O42: RESET loads its straps, and no other effect writes the configuration. -/
theorem configurationWrittenByResetOnly : Obligations.ConfigurationWrittenByResetOnly := by
  intro s s1 t e he hstep
  have heff := effect_of_step he hstep
  obtain ⟨-, pre, post, -, rfl, -⟩ := nextEvent_some he
  refine ⟨fun hr => heff.config hr, ?_⟩
  rintro g d k rfl
  cases heff
  exact ⟨rfl, rfl, rfl⟩

theorem Effect.txStream {s t : State} {e : Event} (he : Effect s e t) :
    (∃ b, e = .txAcc ∧ t.txStream = s.txStream ++ [b]) ∨ (e ≠ .txAcc ∧ t.txStream = s.txStream) := by
  cases he with
  | pushes _ b _ _ _ _ => exact .inl ⟨b, rfl, rfl⟩
  | pushesLast _ b _ _ _ _ => exact .inl ⟨b, rfl, rfl⟩
  | replyEnds b r act _ _ _ ha =>
    obtain ⟨c, st, hends⟩ := lastByte_ends ha b s
    exact .inr ⟨nofun, hends.streams.1⟩
  | _ => exact .inr ⟨nofun, rfl⟩

theorem Effect.rxPulled {s t : State} {e : Event} (he : Effect s e t) :
    (∃ b, e = .rxByte b ∧ t.rxPulled = s.rxPulled ++ [b]) ∨ ((∀ b, e ≠ .rxByte b) ∧ t.rxPulled = s.rxPulled) := by
  cases he with
  | headerByte b _ _ _ _ => exact .inl ⟨b, rfl, rfl⟩
  | badHeader b _ _ _ _ _ => exact .inl ⟨b, rfl, rfl⟩
  | badDeviceId b _ _ _ _ _ _ => exact .inl ⟨b, rfl, rfl⟩
  | headerDone b _ _ _ _ _ _ => exact .inl ⟨b, rfl, rfl⟩
  | bodyByte b _ _ _ => exact .inl ⟨b, rfl, rfl⟩
  | replyEnds b r act _ _ _ ha =>
    obtain ⟨c, st, hends⟩ := lastByte_ends ha b s
    exact .inl ⟨b, rfl, hends.streams.2⟩
  | _ => exact .inr ⟨nofun, rfl⟩

theorem Effect.responses {s t : State} {e : Event} (he : Effect s e t) :
    ∃ rs : List Response, t.responses = s.responses ++ rs ∧ rs.length ≤ 1 := by
  cases hr : e.isReset with
  | false =>
    rcases he.goesOn_or_ends hr with hon | ⟨s', hends, hresp, -⟩
    · exact ⟨[], by rw [hon.responses, List.append_nil], Nat.zero_le 1⟩
    · obtain ⟨r, ht⟩ := hends.responses
      exact ⟨[r], by rw [ht, hresp], Nat.le_refl 1⟩
  | true =>
    cases he with
    | reset g d k => exact ⟨[], (List.append_nil _).symm, Nat.zero_le 1⟩
    | _ => cases hr

/-- Settles O43: each of the three records grows as the effects say. -/
theorem streamsGrowByOneByte : Obligations.StreamsGrowByOneByte := by
  intro s s1 t e he hstep
  have heff := effect_of_step he hstep
  obtain ⟨-, pre, post, -, rfl, -⟩ := nextEvent_some he
  exact ⟨heff.txStream, heff.rxPulled, heff.responses⟩

/-- Settles O44: a byte is pulled by an RXBYTE only, which is enabled while a reply is received, and a reply is received
from a DIRECT address only. -/
theorem noPullUnlessDirect : Obligations.NoPullUnlessDirect := by
  intro s t h hd hstep
  obtain ⟨e, s1, he, heff⟩ := step_takes_event hstep
  have hpulled := heff.rxPulled
  obtain ⟨-, pre, post, -, rfl, -⟩ := nextEvent_some he
  rcases hpulled with ⟨b, rfl, -⟩ | ⟨-, hsame⟩
  · exact absurd (h.direct_of_receiving (phase_receiving_of_nextEvent_rxByte he)) hd
  · exact hsame

theorem Effect.txbuf_of_tx {s t : State} {e : Event} (he : Effect s e t) (hr : e.isReset = false) (hp : s.phase = .tx) :
    t.txbuf = s.txbuf ∧ t.txlen = s.txlen := by
  cases he with
  | reset g d k => cases hr
  | sendStarts _ hidle _ => exact absurd (hp.symm.trans hidle) nofun
  | replyEnds _ _ _ hbody _ _ _ => exact absurd (hp.symm.trans hbody) nofun
  | _ => exact ⟨rfl, rfl⟩

/-- Settles O45: a frame is loaded in IDLE only. -/
theorem frameInProgressIsLatched : Obligations.FrameInProgressIsLatched := by
  intro s s1 t e he hstep hr hp
  have heff := effect_of_step he hstep
  obtain ⟨-, pre, post, -, rfl, -⟩ := nextEvent_some he
  exact heff.txbuf_of_tx hr hp

theorem Effect.reply_registers {s t : State} {e : Event} (he : Effect s e t) (hr : e.isReset = false)
    (hb : ∀ b, e ≠ .rxByte b) :
    t.rcode = s.rcode ∧ t.rstat = s.rstat ∧ t.rlen = s.rlen ∧ t.rxlen = s.rxlen ∧ t.rxcs = s.rxcs ∧
      t.rxhdr = s.rxhdr ∧ t.rxbuf = s.rxbuf := by
  cases he with
  | reset g d k => cases hr
  | headerByte b _ _ _ _ => exact absurd rfl (hb b)
  | badHeader b _ _ _ _ _ => exact absurd rfl (hb b)
  | badDeviceId b _ _ _ _ _ _ => exact absurd rfl (hb b)
  | headerDone b _ _ _ _ _ _ => exact absurd rfl (hb b)
  | bodyByte b _ _ _ => exact absurd rfl (hb b)
  | replyEnds b _ _ _ _ _ _ => exact absurd rfl (hb b)
  | _ => exact ⟨rfl, rfl, rfl, rfl, rfl, rfl, rfl⟩

/-- Settles O46: the effects that write these registers are those of RXBYTE and RESET. -/
theorem replyRegistersWrittenByBytesOnly : Obligations.ReplyRegistersWrittenByBytesOnly := by
  intro s s1 t e he hstep hr hb
  have heff := effect_of_step he hstep
  obtain ⟨-, pre, post, -, rfl, -⟩ := nextEvent_some he
  exact heff.reply_registers hr hb

/-! ### The events that take no step -/

theorem Ends.sched {s t : State} (h : Ends s t) : t.sched = s.sched := by
  cases h <;> rfl

theorem Effect.sched {s t : State} {e : Event} (he : Effect s e t) : t.sched = s.sched := by
  cases he with
  | replyEnds b r act _ _ _ ha =>
    obtain ⟨c, st, hends⟩ := lastByte_ends ha b s
    exact hends.sched
  | _ => rfl

/-- The refusals of the meanings: there is one, that of R166. -/
def RefusesNotEnabled (o : Host.Outcome State Fault Refusal) : Prop := ∀ r, o = .refused r → r = .notEnabled

theorem acceptSend_refuses_notEnabled (p : List Byte) (s : State) : RefusesNotEnabled (acceptSend p s) := by
  intro r h
  unfold acceptSend at h
  split at h
  · split at h <;> cases h
  · cases h; rfl

theorem acceptRecv_refuses_notEnabled (s : State) : RefusesNotEnabled (acceptRecv s) := by
  intro r h
  unfold acceptRecv at h
  split at h
  · split at h <;> cases h
  · cases h; rfl

theorem transmit_refuses_notEnabled (f : List Byte) (s : State) : RefusesNotEnabled (transmit f s) := by
  intro r h
  unfold transmit at h
  split at h
  · split at h <;> cases h
  · cases h; rfl

theorem endReply_refuses_notEnabled (act : State → State) (s : State) : RefusesNotEnabled (endReply act s) := by
  intro r h
  unfold endReply at h
  split at h
  · cases h
  · cases h; rfl

theorem execRf_refuses_notEnabled (len : Half) (s : State) : RefusesNotEnabled (execRf len s) := by
  intro r h
  unfold execRf at h
  split at h
  · split at h
    · cases h
    · cases h; rfl
  · split at h
    · exact endReply_refuses_notEnabled _ s r h
    · cases h; rfl
  · cases h; rfl

theorem execRdcr_refuses_notEnabled (n : Nat) (s : State) : RefusesNotEnabled (execRdcr n s) := by
  intro r h
  unfold execRdcr at h
  split at h
  · cases h
  · cases h; rfl

theorem exec_refuses_notEnabled (i : Instr) (s : State) : RefusesNotEnabled (exec i s) := by
  cases i with
  | cf len g d p cs => exact transmit_refuses_notEnabled _ s
  | rf len => exact execRf_refuses_notEnabled len s
  | send p => exact acceptSend_refuses_notEnabled p s
  | setVolume a | setStandby a | setMonitorSettings a | setAddr a | setRxEdid a | downloadUserEdid a | setBaudRate a
  | getVolume a | getStandby a | getSource a | getSignalInfo a | getTiming a | getSignalPackageInfo a | getPicture a
  | getMonitoringData a | getPixelRgbData a | getBatteryVoltage a | getExt5vInput a | getSignalStatus a
  | getDeviceAddr a | getDeviceVersion a | getRxEdidIndex a | getRxEdidData a | getFwInfo a =>
    exact acceptSend_refuses_notEnabled _ s
  | feedback tail =>
    obtain ⟨act, hexec⟩ := exec_feedback tail s
    rw [hexec]
    exact endReply_refuses_notEnabled act s
  | dataReply c p =>
    rw [exec_dataReply]
    exact endReply_refuses_notEnabled _ s
  | fbOk _ | fbChecksumError _ | fbWrongCommand _ | fbExecError _ | fbInvalidMode _ | fbAddressError _
  | fbUnknown _ _ =>
    exact endReply_refuses_notEnabled _ s
  | recv => exact acceptRecv_refuses_notEnabled s
  | rdcr n => exact execRdcr_refuses_notEnabled n s
  | reset g d k => exact nofun

theorem nextEvent_eq_none {s : State} : nextEvent s = none ↔ ∀ e ∈ s.sched, enabled s.phase e = false := by
  rw [← takeEnabled_none]
  cases h : takeEnabled s.phase s.sched <;> simp [nextEvent, h]

/-- The block takes no step where no event is enabled, and a step that takes an event is never so refused. -/
theorem step_refused_iff (s : State) : step s = .refused .noEnabledEvent ↔ nextEvent s = none := by
  constructor
  · intro h
    unfold step at h
    split at h
    · assumption
    · split at h
      · exact absurd (exec_refuses_notEnabled _ _ _ h) nofun
      · cases h
      · cases h
  · intro h
    simp only [step, h]

theorem acceptSend_of_busy {s : State} (hp : s.phase ≠ .idle) (p : List Byte) :
    acceptSend p s = .refused .notEnabled := by
  unfold acceptSend
  split
  · exact absurd ‹_› hp
  · rfl

theorem acceptRecv_of_busy {s : State} (hp : s.phase ≠ .idle) : acceptRecv s = .refused .notEnabled := by
  unfold acceptRecv
  split
  · exact absurd ‹_› hp
  · rfl

theorem execRdcr_of_busy {s : State} (hp : s.phase ≠ .idle) (n : Nat) : execRdcr n s = .refused .notEnabled := by
  unfold execRdcr
  split
  · exact absurd ‹_› hp
  · rfl

/-- Settles O40: the table of R166 by its definition, the schedule by what `takeEnabled` takes from it, the refusals
by the meanings'. -/
theorem disabledEventsTakeNoStep : Obligations.DisabledEventsTakeNoStep := by
  refine ⟨fun _ _ _ _ => rfl, fun _ _ => beq_iff_eq, fun _ => beq_iff_eq, fun _ _ => beq_iff_eq, fun _ => beq_iff_eq,
    fun ph b => by simp [enabled], fun ph k => by simp [enabled], fun s t hstep => ?taken, fun s => ?refused,
    fun s i hp hi => ?busy⟩
  case taken =>
    obtain ⟨e, s1, he, heff⟩ := step_takes_event hstep
    obtain ⟨hen, pre, post, hs, rfl, hpre⟩ := nextEvent_some he
    exact ⟨pre, post, e, hs, hen, hpre, heff.sched⟩
  case refused => rw [step_refused_iff, nextEvent_eq_none]
  case busy =>
    rcases hi with ⟨p, rfl⟩ | rfl | ⟨n, rfl⟩ | ⟨r, hr, args, rfl⟩
    · exact acceptSend_of_busy hp p
    · exact acceptRecv_of_busy hp
    · exact execRdcr_of_busy hp n
    · rw [exec_commandRow hr]
      exact acceptSend_of_busy hp _

end Sys2Proof.Machine
end

section
/-! PROOFS. The rows that events fetch, the bits that are placed for the next step, and that DESYNC steers nothing
(spec/30_encoding.md section 7, spec/43_sequencer.md, spec/10_state.md section 6). -/

namespace Sys2Proof.Machine

/-! ### The rows that events fetch -/

theorem fetch_reqSend_of_decoded {p : List Byte} {i : Instr} (h : decodeCommand p = .ok i) (s : State) :
    fetch (.reqSend p) s = .run i s := by
  simp only [fetch, instrOfPayload, h]

theorem fetch_reqSend_of_unlisted {p : List Byte} (h : ∀ i, decodeCommand p ≠ .ok i) (s : State) :
    fetch (.reqSend p) s = .run (.send p) s := by
  cases hd : decodeCommand p with
  | ok i => exact absurd hd (h i)
  | error e => simp only [fetch, instrOfPayload, hd]

theorem fetchFrame_of_decoded {f : List Byte} {i : Instr} {s : State} (hf : txFrame s = some f)
    (h : decodeFrame f = .ok i) : fetchFrame s = .run i s := by
  simp only [fetchFrame, hf, decode, h]

theorem fetchHeader_of_decoded {i : Instr} {s : State} (h : decodeHeader s.rxhdr.bytes = .ok i) :
    fetchHeader s = .run i s := by
  simp only [fetchHeader, decode, h]

theorem instrOfRegion_of_feedback {r : List Byte} {i : Instr} (h : decodeFeedback r = .ok i) (len : Half) :
    instrOfRegion len r = i := by
  simp only [instrOfRegion, h]

theorem instrOfRegion_of_code {r : List Byte} {i : Instr} (hf : ∀ j, decodeFeedback r ≠ .ok j)
    (h : decodeRegionCode r = .ok i) (len : Half) : instrOfRegion len r = i := by
  cases hd : decodeFeedback r with
  | ok j => exact absurd hd (hf j)
  | error e => simp only [instrOfRegion, hd, h]

/-- A region without a code has no status either (R127). -/
theorem instrOfRegion_of_noCode {r : List Byte} (h : ∀ j, decodeRegionCode r ≠ .ok j) (len : Half) :
    instrOfRegion len r = .rf len := by
  match r, h with
  | [], _ => rfl
  | [_], _ => rfl
  | b0 :: b1 :: tail, h =>
    simp only [decodeRegionCode] at h
    split at h <;> exact absurd rfl (h _)

/-- Settles O35: the event is fetched as the instruction its bytes decode to, and the step runs what it fetches. -/
theorem stepRunsDecodedInstruction : Obligations.StepRunsDecodedInstruction := by
  intro s s1 i
  refine ⟨fun p he hd => step_of_fetch_run he (fetch_reqSend_of_decoded hd s1),
    fun p he hd => step_of_fetch_run he (fetch_reqSend_of_unlisted hd s1), fun he => step_of_fetch_run he rfl,
    fun n he => step_of_fetch_run he rfl, fun g d k he => step_of_fetch_run he rfl, fun f he hf hd => ?frame,
    fun b h he hp hn hh hd => ?header, fun b r he hp hn hr hd => ?region⟩ <;>
    obtain ⟨-, pre, post, -, rfl, -⟩ := nextEvent_some he
  case frame => exact step_of_fetch_run he (fetchFrame_of_decoded hf hd)
  case header =>
    have hset : s.rxhdr.set s.rxcnt.toNat b = some h := by rw [hn, hh]; rfl
    have hfetch := fetchByte_rxhdr (s := { s with sched := pre ++ post }) hp hset
    exact step_of_fetch_run he ((hfetch.trans (if_pos hn)).trans (fetchHeader_of_decoded hd))
  case region =>
    have hi : instrOfRegion s.rxlen r = i := by
      rcases hd with hd | ⟨hf, hd⟩ | ⟨hd, rfl⟩
      · exact instrOfRegion_of_feedback hd _
      · exact instrOfRegion_of_code hf hd _
      · exact instrOfRegion_of_noCode hd _
    rw [← hi]
    exact step_of_fetch_run he (fetchByte_checksum (s := { s with sched := pre ++ post }) hp hn hr)

/-! ### Bits placed for the next step (entry 2) -/

/-- A command's bits, the payload of a SEND request. -/
theorem placed_payload_runs {bs : List Byte} {i : Instr} (h : decodeCommand bs = .ok i) (s : State) :
    ∃ s2 t, step (placePayload bs s) = exec i s2 ∧ exec i s2 = .next t := by
  have he : nextEvent (placePayload bs s) = some (.reqSend bs, { s with phase := .idle }) :=
    nextEvent_head rfl rfl
  have hstep := step_of_fetch_run he (fetch_reqSend_of_decoded h _)
  obtain ⟨t, ht⟩ := acceptSend_answers (s := { s with phase := .idle }) rfl bs
  exact ⟨_, t, hstep, hstep.symm.trans ((step_reqSend he).trans ht)⟩

theorem decodeFrame_ok {bs : List Byte} {i : Instr} (h : decodeFrame bs = .ok i) :
    ∃ len g d p cs, i = .cf len g d p cs := by
  unfold decodeFrame at h
  split at h
  · split_ifs at h
    cases h
    exact ⟨_, _, _, _, _, rfl⟩
  · cases h

theorem decodeHeader_ok {bs : List Byte} {i : Instr} (h : decodeHeader bs = .ok i) : ∃ len, i = .rf len := by
  unfold decodeHeader at h
  split at h
  · split_ifs at h
    cases h
    exact ⟨_, rfl⟩
  · cases h

/-- A frame's bits, TXBUF with its first byte next. -/
theorem placed_frame_runs {bs : List Byte} {i : Instr} (h : decodeFrame bs = .ok i) (hl : bs.length < 2 ^ 17)
    (s : State) : ∃ s2 t, step (placeFrame bs s) = exec i s2 ∧ exec i s2 = .next t := by
  have he : nextEvent (placeFrame bs s) = some (.txAcc, { placeFrame bs s with sched := s.sched }) :=
    nextEvent_head rfl rfl
  have hlen : (BitVec.ofNat 17 bs.length).toNat = bs.length := Nat.mod_eq_of_lt hl
  have hf : txFrame { placeFrame bs s with sched := s.sched } = some bs := by
    simp only [txFrame, placeFrame, hlen, readAll_writeAll]
  have hstep := step_of_fetch_run he (fetchFrame_of_decoded hf h)
  obtain ⟨len, g, d, p, cs, rfl⟩ := decodeFrame_ok h
  have htr := transmit_of_getElem? (f := frameBytes len g d p cs) (b := Config.tagTx)
    (s := { placeFrame bs s with sched := s.sched }) rfl rfl
  exact ⟨_, _, hstep, htr⟩

/-- A header's bits, the fifth byte to come. -/
theorem placed_header_runs {t v0 v1 l0 l1 : Byte} {i : Instr} (h : decodeHeader [t, v0, v1, l0, l1] = .ok i)
    (s : State) : ∃ s2 t', step (placeHeader t v0 v1 l0 l1 s) = exec i s2 ∧ exec i s2 = .next t' := by
  have he : nextEvent (placeHeader t v0 v1 l0 l1 s) =
      some (.rxByte l1, { placeHeader t v0 v1 l0 l1 s with sched := s.sched }) := nextEvent_head rfl rfl
  have hfetch := (fetchByte_rxhdr (s := { placeHeader t v0 v1 l0 l1 s with sched := s.sched }) (b := l1)
    (h := ⟨t, v0, v1, l0, l1⟩) rfl rfl).trans (if_pos rfl)
  have hstep := step_of_fetch_run he (hfetch.trans (fetchHeader_of_decoded h))
  obtain ⟨len, rfl⟩ := decodeHeader_ok h
  exact ⟨_, _, hstep, exec_rf_fifth rfl rfl len⟩

/-- A region's bits, the checksum byte to come. -/
theorem placed_region_runs {bs : List Byte} (hl : bs.length < 2 ^ 16) {i : Instr}
    (hi : ∀ len, instrOfRegion len bs = i) (s : State) :
    ∃ s2 t, step (placeRegion bs s) = exec i s2 ∧ exec i s2 = .next t := by
  have he : nextEvent (placeRegion bs s) =
      some (.rxByte (0 - s.rxsum), { placeRegion bs s with sched := s.sched }) := nextEvent_head rfl rfl
  have hlen : (BitVec.ofNat 16 bs.length).toNat = bs.length := Nat.mod_eq_of_lt hl
  have hr : rxRegion { placeRegion bs s with sched := s.sched } = some bs := by
    simp only [rxRegion, placeRegion, hlen, readAll_writeAll]
  have hn : (BitVec.ofNat 17 (5 + bs.length)).toNat = 5 + (BitVec.ofNat 16 bs.length).toNat := by
    rw [hlen, BitVec.toNat_ofNat]
    omega
  have hfetch := fetchByte_checksum (b := 0 - s.rxsum) rfl hn hr
  obtain ⟨act, hruns, -⟩ := regionRuns_of_rxRegion hr
  have hexec := (hruns (pullByte (0 - s.rxsum) (storeChecksum (0 - s.rxsum) { placeRegion bs s with sched := s.sched }))
    rfl rfl).trans (endReply_lastByte act rfl hn)
  rw [hi] at hfetch hexec
  exact ⟨_, _, step_of_fetch_run he hfetch, hexec⟩

theorem decodeThree_cases {bs : List Byte} {i : Instr} (h : decodeThree bs = some i) :
    decodeFrame (bs ++ [0, 0, 0, 0, 0]) = .ok i ∨ decodeHeader (bs ++ [0, 0]) = .ok i ∨ decodeFeedback bs = .ok i := by
  unfold decodeThree at h
  split at h
  · next hf => exact .inl (hf.trans (congrArg _ (Option.some.inj h)))
  · split at h
    · next hh => exact .inr (.inl (hh.trans (congrArg _ (Option.some.inj h))))
    · cases hb : decodeFeedback bs with
      | ok j => exact .inr (.inr (congrArg _ (by simpa [hb, Except.toOption] using h)))
      | error e => simp [hb, Except.toOption] at h

theorem decodeTwo_cases {bs : List Byte} {i : Instr} (h : decodeTwo bs = some i) :
    decodeCommand bs = .ok i ∨ decodeRegionCode bs = .ok i := by
  unfold decodeTwo at h
  split at h
  · next hc => exact .inl (hc.trans (congrArg _ (Option.some.inj h)))
  · cases hb : decodeRegionCode bs with
    | ok j => exact .inr (congrArg _ (by simpa [hb, Except.toOption] using h))
    | error e => simp [hb, Except.toOption] at h

/-- The bytes that are placed for a row of this format (entry 2). -/
def placedBytes (nbits w : Nat) : Format → List Byte
  | .cf => bytesOfNat 3 w ++ [0, 0, 0, 0, 0]
  | .rf => bytesOfNat 3 w ++ [0, 0]
  | _ => bytesOfNat (nbits / 8) w

/-- The place of a row is that of its encoding's format. -/
theorem placeWord_of_encode {nbits w : Nat} {i : Instr} {f : Format} {bs : List Byte}
    (h : decodeTableWord nbits w = some i) (he : encode i = .bytes f bs) (s : State) :
    placeWord nbits w s = placeBytes f (placedBytes nbits w f) s := by
  simp only [placeWord, h, Option.map_some, he]
  cases f <;> rfl

/-- Settles O8: a row's bits are placed where its format is fetched from, so the next step fetches them. -/
theorem placedWordRunsNext : Obligations.PlacedWordRunsNext := by
  intro s nbits w i h
  have hplace {f : Format} {bs : List Byte} (he : encode i = .bytes f bs) := placeWord_of_encode h he s
  unfold State.withFetchWord
  unfold decodeTableWord at h
  split_ifs at h with h24 h16
  · subst h24
    rcases decodeThree_cases h with hd | hd | hd
    · rw [hplace (encode_of_decodeFrame hd)]
      exact placed_frame_runs hd (by simp) s
    · rw [hplace (encode_of_decodeHeader hd)]
      exact placed_header_runs hd s
    · obtain ⟨st, rest, -, rfl⟩ := decodeFeedback_ok hd
      rw [hplace (encode_feedbackRow st rest)]
      exact placed_region_runs (by simp) (instrOfRegion_of_feedback hd) s
  · subst h16
    rcases decodeTwo_cases h with hd | hd
    · rw [hplace (encode_of_decodeCommand hd)]
      exact placed_payload_runs hd s
    · have hnf : ∀ j, decodeFeedback (bytesOfNat 2 w) ≠ .ok j := by simp [bytesOfNat, decodeFeedback]
      rw [hplace (encode_of_decodeRegionCode hd)]
      exact placed_region_runs (by simp) (instrOfRegion_of_code hnf hd) s

/-! ### DESYNC -/

/-- `s` with DESYNC set. -/
def marked (s : State) : State := { s with desync := true }

theorem nextEvent_marked {s s1 : State} {e : Event} (he : nextEvent s = some (e, s1)) :
    nextEvent (marked s) = some (e, marked s1) := by
  unfold nextEvent at he ⊢
  split at he
  · cases he
  · next hte =>
    cases he
    simp only [marked, hte]

theorem RegionDoes.marked {r : List Byte} {act : State → State} (h : RegionDoes r act) (s : State) :
    act (marked s) = Machine.marked (act s) := by
  cases h <;> rfl

theorem lastByte_marked {r : List Byte} {act : State → State} (h : RegionDoes r act) (b : Byte) (s : State) :
    lastByte act b (marked s) = marked (lastByte act b s) := by
  have hpulled : pullByte b (storeChecksum b (marked s)) = marked (pullByte b (storeChecksum b s)) := rfl
  have hcond : ((marked s).rxck && (marked s).rxsum + b != 0) = (s.rxck && s.rxsum + b != 0) := rfl
  simp only [lastByte, hcond]
  split
  · rfl
  · rw [hpulled, h.marked]

/-- A transfer that answers ran the frame in TXBUF. -/
theorem transmit_of_step_txAcc {s s1 t : State} (he : nextEvent s = some (.txAcc, s1)) (h : step s = .next t) :
    ∃ len g d p cs, fetchFrame s1 = .run (.cf len g d p cs) s1 ∧ transmit (frameBytes len g d p cs) s1 = .next t := by
  simp only [step, he, fetch] at h
  cases hf : txFrame s1 with
  | none => simp [fetchFrame, hf] at h
  | some f =>
    cases hd : decodeFrame f with
    | error e => simp [fetchFrame, hf, decode, hd] at h
    | ok i =>
      have hfetch := fetchFrame_of_decoded hf hd
      obtain ⟨len, g, d, p, cs, rfl⟩ := decodeFrame_ok hd
      rw [hfetch] at h
      exact ⟨len, g, d, p, cs, hfetch, h⟩

/-- What a frame is fetched as does not depend on the flag. -/
theorem fetchFrame_marked {s : State} {i : Instr} (h : fetchFrame s = .run i s) :
    fetchFrame (marked s) = .run i (marked s) := by
  have hf : txFrame (marked s) = txFrame s := rfl
  unfold fetchFrame at h ⊢
  rw [hf]
  split at h
  · cases h
  · split at h
    · cases h; rfl
    · cases h

theorem transmit_marked {f : List Byte} {s t : State} (h : transmit f s = .next t) :
    transmit f (marked s) = .next (marked t) := by
  obtain ⟨hp, b, hb, ⟨hl, rfl⟩ | ⟨hl, rfl⟩⟩ := transmit_next h
  · exact (transmit_of_getElem? (s := marked s) hp hb).trans (congrArg _ (if_pos hl))
  · exact (transmit_of_getElem? (s := marked s) hp hb).trans (congrArg _ (if_neg hl))

/-- The fifth header byte has the header fetched (R121, R170). -/
theorem fetchByte_fifth {b : Byte} {h : RxHdr} {s : State} (hp : s.phase = .rxhdr)
    (hs : s.rxhdr.set s.rxcnt.toNat b = some h) (hn : (s.rxcnt + 1).toNat = 5) :
    fetchByte b s = fetchHeader (pullByte b (storeHeader h s)) :=
  (fetchByte_rxhdr hp hs).trans (if_pos (by bv_omega))

/-- Settles O34: effect by effect, what the event does to the state with the flag is what it does to the state. -/
theorem desyncDoesNotSteer : Obligations.DesyncDoesNotSteer := by
  intro s s1 t e he hr hrd _ hstep
  have heff := effect_of_step he hstep
  have hem := nextEvent_marked he
  change step (marked s) = .next (marked t)
  cases heff with
  | reset g d k => cases hr
  | reads n _ => exact absurd rfl (hrd n)
  | sendRefused p hp hl => exact (step_reqSend hem).trans (acceptSend_of_oversized (s := marked s1) hp hl)
  | sendStarts p hp hl => exact (step_reqSend hem).trans (acceptSend_of_fits (s := marked s1) hp hl)
  | recvRefused hp hd => exact (step_of_fetch_run hem rfl).trans (acceptRecv_of_not_direct (s := marked s1) hp hd)
  | recvStarts hp hd => exact (step_of_fetch_run hem rfl).trans (acceptRecv_of_direct (s := marked s1) hp hd)
  | pushes | pushesLast =>
    obtain ⟨len, g, d, p, cs, hfetch, htr⟩ := transmit_of_step_txAcc he hstep
    exact (step_of_fetch_run hem (fetchFrame_marked hfetch)).trans (transmit_marked htr)
  | fails k => exact step_of_fetch_pass hem rfl
  | headerByte b h hp hs hn =>
    have hn4 : s1.rxcnt.toNat ≠ 4 := by bv_omega
    exact step_of_fetch_pass hem ((fetchByte_rxhdr (s := marked s1) hp hs).trans (if_neg hn4))
  | badHeader b h hp hs hn ht =>
    have hfetch := fetchByte_fifth (s := marked s1) hp hs hn
    exact step_of_fetch_pass hem (hfetch.trans (fetchHeader_of_badTag ht))
  | badDeviceId b h hp hs hn ht hd =>
    have hfetch := fetchByte_fifth (s := marked s1) hp hs hn
    exact step_of_fetch_pass hem (hfetch.trans (fetchHeader_of_badDevice ht hd))
  | headerDone b h hp hs hn ht hd =>
    have hfetch := fetchByte_fifth (s := marked s1) hp hs hn
    rw [step_of_fetch_run hem (hfetch.trans (fetchHeader_of_good ht hd))]
    exact replyHeaderAccepted _ (pullByte b (storeHeader h (marked s1))) hp hn
  | bodyByte b hp h5 hlt => exact step_bodyByte (s1 := marked s1) hem hp h5 hlt
  | replyEnds b r act hp hn hreg _ =>
    obtain ⟨act', ha⟩ := regionRuns_of_rxRegion hreg
    rw [step_lastByte he hp hn hreg ha] at hstep
    rw [step_lastByte (s1 := marked s1) hem hp hn hreg ha, lastByte_marked ha.2]
    exact congrArg _ (congrArg marked (Host.Outcome.next.inj hstep))

end Sys2Proof.Machine
end

section
/-! PROOFS. A whole RECV, from the request to the last byte, gives the outcome of DecodeReply
(spec/41_decode.md sections 1 and 6). -/

namespace Sys2Proof.Machine

/-! ### Runs -/

theorem run_add_of_run {m : Nat} {s t : State} (h : Host.Core.run core m s = .next t) (n : Nat) :
    Host.Core.run core (m + n) s = Host.Core.run core n t := by
  induction m generalizing s with
  | zero =>
    cases h
    rw [Nat.zero_add]
  | succ m ih =>
    cases hs : step s with
    | next s' =>
      rw [run_succ_of_step hs] at h
      rw [Nat.add_right_comm, run_succ_of_step hs, ih h]
    | fault f => simp [Host.Core.run, core, hs] at h
    | refused r => simp [Host.Core.run, core, hs] at h

theorem run_one_of_step {s t : State} (h : step s = .next t) : Host.Core.run core 1 s = .next t :=
  run_succ_of_step h 0

/-! ### What DecodeReply consumes whole -/

/-- The bytes that DecodeReply consumes whole, with its outcome: a header that fails a check, or a frame (R120). -/
inductive WholeReply (k : Bool) : List Byte → ReplyOutcome → Prop where
  | badHeader (h : RxHdr) (ht : h.tag ≠ Config.tagRx) : WholeReply k h.bytes (.badHeader h.tag)
  | badDeviceId (h : RxHdr) (ht : h.tag = Config.tagRx) (hd : le16 h.devLo h.devHi ≠ Config.devId) :
      WholeReply k h.bytes (.badDeviceId (le16 h.devLo h.devHi))
  | frame (h : RxHdr) (r : List Byte) (b : Byte) (ht : h.tag = Config.tagRx)
      (hd : le16 h.devLo h.devHi = Config.devId) (hr : r.length = (le16 h.lenLo h.lenHi).toNat) :
      WholeReply k (h.bytes ++ (r ++ [b]))
        (checkReply k (h.bytes ++ (r ++ [b])) (le16 h.lenLo h.lenHi) r)

theorem wholeReply_of_decodeReply {bytes : List Byte} {k : Bool} {o : ReplyOutcome}
    (h : decodeReply bytes k = some (o, bytes.length)) : WholeReply k bytes o := by
  unfold decodeReply at h
  split at h
  · next t v0 v1 l0 l1 body =>
    simp only at h
    split_ifs at h with ht hd hl <;> simp only [Option.some.injEq, Prod.mk.injEq, List.length_cons] at h <;>
      obtain ⟨rfl, hlen⟩ := h
    · obtain rfl : body = [] := List.length_eq_zero_iff.mp (by omega)
      exact .badHeader ⟨t, v0, v1, l0, l1⟩ ht
    · obtain rfl : body = [] := List.length_eq_zero_iff.mp (by omega)
      exact .badDeviceId ⟨t, v0, v1, l0, l1⟩ (not_ne_iff.mp ht) hd
    · obtain ⟨b, hb⟩ := List.length_eq_one_iff.mp
        (show (body.drop (le16 l0 l1).toNat).length = 1 by rw [List.length_drop]; omega)
      have hbody : body.take (le16 l0 l1).toNat ++ [b] = body := by rw [← hb, List.take_append_drop]
      have hall : (t :: v0 :: v1 :: l0 :: l1 :: body).take ((le16 l0 l1).toNat + 6) =
          t :: v0 :: v1 :: l0 :: l1 :: body := List.take_of_length_le (by simp only [List.length_cons]; omega)
      have hframe := WholeReply.frame (k := k) ⟨t, v0, v1, l0, l1⟩ (body.take (le16 l0 l1).toNat) b
        (not_ne_iff.mp ht) (not_ne_iff.mp hd) (by simp only [List.length_take]; omega)
      rw [hall]
      rwa [hbody] at hframe
  · cases h

/-! ### The header -/

/-- What pulling a byte string leaves, beside where the bytes are stored (`pullBytes_cons`). -/
def pullBytes (bs : List Byte) (s : State) : State :=
  { s with
    rxPulled := s.rxPulled ++ bs
    rxsum := s.rxsum + sum8 bs
    rxcnt := s.rxcnt + BitVec.ofNat 17 bs.length }

@[simp] theorem pullBytes_gaddr (bs : List Byte) (s : State) : (pullBytes bs s).gaddr = s.gaddr := rfl
@[simp] theorem pullBytes_daddr (bs : List Byte) (s : State) : (pullBytes bs s).daddr = s.daddr := rfl
@[simp] theorem pullBytes_rxck (bs : List Byte) (s : State) : (pullBytes bs s).rxck = s.rxck := rfl
@[simp] theorem pullBytes_phase (bs : List Byte) (s : State) : (pullBytes bs s).phase = s.phase := rfl
@[simp] theorem pullBytes_rxlen (bs : List Byte) (s : State) : (pullBytes bs s).rxlen = s.rxlen := rfl
@[simp] theorem pullBytes_txbuf (bs : List Byte) (s : State) : (pullBytes bs s).txbuf = s.txbuf := rfl
@[simp] theorem pullBytes_rxbuf (bs : List Byte) (s : State) : (pullBytes bs s).rxbuf = s.rxbuf := rfl
@[simp] theorem pullBytes_sched (bs : List Byte) (s : State) : (pullBytes bs s).sched = s.sched := rfl
@[simp] theorem pullBytes_txStream (bs : List Byte) (s : State) : (pullBytes bs s).txStream = s.txStream := rfl
@[simp] theorem pullBytes_responses (bs : List Byte) (s : State) : (pullBytes bs s).responses = s.responses := rfl
@[simp] theorem pullBytes_rxPulled (bs : List Byte) (s : State) : (pullBytes bs s).rxPulled = s.rxPulled ++ bs := rfl
@[simp] theorem pullBytes_rxsum (bs : List Byte) (s : State) : (pullBytes bs s).rxsum = s.rxsum + sum8 bs := rfl
@[simp] theorem pullBytes_rxcnt (bs : List Byte) (s : State) :
    (pullBytes bs s).rxcnt = s.rxcnt + BitVec.ofNat 17 bs.length := rfl

@[simp] theorem pullBytes_nil (s : State) : pullBytes [] s = s := by
  simp [pullBytes]

theorem pullBytes_cons (b : Byte) (bs : List Byte) (s : State) :
    pullBytes (b :: bs) s = pullBytes bs (pullByte b s) := by
  simp [pullBytes, sum8_cons, BitVec.add_assoc, BitVec.ofNat_add, Nat.add_comm]

/-- A RECV with the bytes `bs` in, RXHDR holding `h`, and the events `es` to come. -/
def receiving (bs : List Byte) (h : RxHdr) (es : List Event) (s : State) : State :=
  pullBytes bs (storeHeader h (startReply (clearError { s with sched := es })))

theorem pullByte_storeHeader_pullBytes (b : Byte) (bs : List Byte) (h h' : RxHdr) (s : State) :
    pullByte b (storeHeader h' (pullBytes bs (storeHeader h s))) = pullBytes (bs ++ [b]) (storeHeader h' s) := by
  simp [pullBytes, pullByte, storeHeader, sum8_append_singleton, BitVec.add_assoc, BitVec.ofNat_add]

section
variable {s : State} {bs : List Byte} {h h' : RxHdr} {b : Byte} {es : List Event}

theorem toNat_receiving_rxcnt (hl : bs.length ≤ 5) : (receiving bs h es s).rxcnt.toNat = bs.length := by
  simp only [receiving, pullBytes_rxcnt, storeHeader_rxcnt, startReply_rxcnt, BitVec.ofNat_eq_ofNat, BitVec.zero_add,
    BitVec.toNat_ofNat]
  omega

theorem nextEvent_receiving :
    nextEvent (receiving bs h (.rxByte b :: es) s) = some (.rxByte b, receiving bs h es s) :=
  nextEvent_head rfl rfl

theorem fetchByte_receiving (hl : bs.length < 5) (hset : h.set bs.length b = some h') :
    fetchByte b (receiving bs h es s) =
      if bs.length = 4 then fetchHeader (receiving (bs ++ [b]) h' es s) else .pass (receiving (bs ++ [b]) h' es s) := by
  have hcnt := toNat_receiving_rxcnt (s := s) (h := h) (es := es) hl.le
  have hset' : (receiving bs h es s).rxhdr.set (receiving bs h es s).rxcnt.toNat b = some h' := by rwa [hcnt]
  have hpull := pullByte_storeHeader_pullBytes b bs h h' (startReply (clearError { s with sched := es }))
  rw [fetchByte_rxhdr rfl hset', hcnt, receiving, hpull]
  rfl

theorem step_receiving (hl : bs.length < 4) (hset : h.set bs.length b = some h') :
    step (receiving bs h (.rxByte b :: es) s) = .next (receiving (bs ++ [b]) h' es s) :=
  step_of_fetch_pass nextEvent_receiving ((fetchByte_receiving (by omega) hset).trans (if_neg (by omega)))

/-- The request and the first four header bytes go by unchecked, and the fifth has the whole header fetched (R121). -/
theorem run_to_header (hp : s.phase = .idle) (hd : s.daddr = Config.direct)
    (hs : s.sched = .reqRecv :: (h.bytes.map .rxByte ++ es)) :
    ∃ s4 s5, Host.Core.run core 5 s = .next s4 ∧ nextEvent s4 = some (.rxByte h.lenHi, s5) ∧
      fetch (.rxByte h.lenHi) s5 = fetchHeader (receiving h.bytes h es s) := by
  obtain ⟨t, v0, v1, l0, l1⟩ := h
  have h0 : step s = .next (receiving [] s.rxhdr ([t, v0, v1, l0, l1].map .rxByte ++ es) s) := by
    rw [receiving, pullBytes_nil]
    exact (step_of_fetch_run (nextEvent_head hs (by rw [hp]; rfl)) rfl).trans (acceptRecv_of_direct hp hd)
  have h1 := step_receiving (s := s) (es := [v0, v1, l0, l1].map .rxByte ++ es) (bs := []) (h := s.rxhdr) (b := t)
    (by simp) rfl
  have h2 := step_receiving (s := s) (es := [v1, l0, l1].map .rxByte ++ es) (bs := [t])
    (h := ⟨t, s.rxhdr.devLo, s.rxhdr.devHi, s.rxhdr.lenLo, s.rxhdr.lenHi⟩) (b := v0) (by simp) rfl
  have h3 := step_receiving (s := s) (es := [l0, l1].map .rxByte ++ es) (bs := [t, v0])
    (h := ⟨t, v0, s.rxhdr.devHi, s.rxhdr.lenLo, s.rxhdr.lenHi⟩) (b := v1) (by simp) rfl
  have h4 := step_receiving (s := s) (es := [l1].map .rxByte ++ es) (bs := [t, v0, v1])
    (h := ⟨t, v0, v1, s.rxhdr.lenLo, s.rxhdr.lenHi⟩) (b := l0) (by simp) rfl
  have hrun : Host.Core.run core 5 s =
      .next (receiving [t, v0, v1, l0] ⟨t, v0, v1, l0, s.rxhdr.lenHi⟩ (.rxByte l1 :: es) s) :=
    calc
      _ = _ := run_succ_of_step h0 4
      _ = _ := run_succ_of_step h1 3
      _ = _ := run_succ_of_step h2 2
      _ = _ := run_succ_of_step h3 1
      _ = _ := run_succ_of_step h4 0
  have hfifth := (fetchByte_receiving (s := s) (es := es) (bs := [t, v0, v1, l0])
    (h := ⟨t, v0, v1, l0, s.rxhdr.lenHi⟩) (b := l1) (by simp) rfl).trans (if_pos rfl)
  exact ⟨_, _, hrun, nextEvent_receiving, hfifth⟩

end

/-! ### The body -/

/-- A byte string pulled into RXBUF from RXCNT on (R125). -/
def pullRegion (bs : List Byte) (s : State) : State :=
  pullBytes bs { s with rxbuf := Memory.writeAll s.rxbuf (s.rxcnt.toNat - 5) bs }

theorem pullRegion_cons (b : Byte) (bs : List Byte) {s : State} (h5 : 5 ≤ s.rxcnt.toNat)
    (hle : s.rxcnt.toNat ≤ 5 + s.rxlen.toNat) :
    pullRegion (b :: bs) s = pullRegion bs (pullByte b (storeRegion (s.rxcnt.toNat - 5) b s)) := by
  have hcnt := toNat_rxcnt_succ hle
  simp only [pullRegion, pullBytes_cons, pullByte_rxcnt, storeRegion_rxcnt, hcnt, Nat.sub_add_comm h5]
  rfl

/-- The body's bytes before the last (R125, R171). -/
theorem run_region {bs : List Byte} {s : State} {es : List Event} (hp : s.phase = .rxbody) (h5 : 5 ≤ s.rxcnt.toNat)
    (hlen : s.rxcnt.toNat + bs.length ≤ 5 + s.rxlen.toNat) (hs : s.sched = bs.map .rxByte ++ es) :
    Host.Core.run core bs.length s = .next (pullRegion bs { s with sched := es }) := by
  induction bs generalizing s with
  | nil =>
    rw [List.map_nil, List.nil_append] at hs
    subst hs
    simp [pullRegion, Memory.writeAll, Host.Core.run]
  | cons b bs ih =>
    rw [List.length_cons] at hlen ⊢
    have hle : s.rxcnt.toNat ≤ 5 + s.rxlen.toNat := by omega
    have hcnt := toNat_rxcnt_succ hle
    have he := nextEvent_head (es := bs.map .rxByte ++ es) hs (by rw [hp]; rfl)
    rw [run_succ_of_step (step_bodyByte he hp h5 (by simp only; omega)),
      pullRegion_cons (s := { s with sched := es }) b bs h5 hle]
    refine ih hp ?_ ?_ rfl
    · simp only [pullByte_rxcnt, storeRegion_rxcnt, hcnt]
      omega
    · simp only [pullByte_rxcnt, storeRegion_rxcnt, pullByte_rxlen, storeRegion_rxlen, hcnt]
      omega

/-! ### The whole RECV -/

theorem Ends.rxcnt {s t : State} (h : Ends s t) : t.rxcnt = s.rxcnt := by
  cases h <;> rfl

theorem Ends.txbuf {s t : State} (h : Ends s t) : t.txbuf = s.txbuf := by
  cases h <;> rfl

/-- What O21 says of the state a RECV over `bytes` ends in. -/
structure RecvEnds (s t : State) (bytes : List Byte) (o : ReplyOutcome) (rest : List Event) : Prop where
  phase : t.phase = .idle
  sched : t.sched = rest
  responses : t.responses = s.responses ++ [responseOf o]
  rxPulled : t.rxPulled = s.rxPulled ++ bytes
  rxcnt : t.rxcnt.toNat = bytes.length
  txStream : t.txStream = s.txStream
  txbuf : t.txbuf = s.txbuf
  config : t.gaddr = s.gaddr ∧ t.daddr = s.daddr ∧ t.rxck = s.rxck

/-- A header that fails a check ends the RECV with its error, and no byte of the body is pulled (R122, R123). -/
theorem recvEnds_of_raise (s : State) (h : RxHdr) (rest : List Event) {e : Error} {info : Half} {o : ReplyOutcome}
    (ho : responseOf o = .err e.code info) :
    RecvEnds s (raise e info (receiving h.bytes h rest s)) h.bytes o rest where
  phase := rfl
  sched := by simp [receiving]
  responses := by simp [receiving, ho]
  rxPulled := by simp [receiving]
  rxcnt := toNat_receiving_rxcnt (length_rxHdr_bytes h).le
  txStream := by simp [receiving]
  txbuf := by simp [receiving]
  config := by simp [receiving]

/-- A RECV with an accepted header and the whole region in, the events `es` to come. -/
def regionIn (h : RxHdr) (r : List Byte) (es : List Event) (s : State) : State :=
  pullRegion r (acceptHeader (le16 h.lenLo h.lenHi) (receiving h.bytes h es s))

section
variable {s : State} {h : RxHdr} {r : List Byte} {es : List Event}

theorem toNat_regionIn_rxcnt (hr : r.length = (le16 h.lenLo h.lenHi).toNat) :
    (regionIn h r es s).rxcnt.toNat = 5 + (le16 h.lenLo h.lenHi).toNat := by
  have hlen := (le16 h.lenLo h.lenHi).isLt
  have hcnt := toNat_receiving_rxcnt (s := s) (h := h) (es := es) (length_rxHdr_bytes h).le
  simp only [regionIn, pullRegion, pullBytes_rxcnt, acceptHeader_rxcnt, BitVec.toNat_add, BitVec.toNat_ofNat, hcnt,
    length_rxHdr_bytes, hr]
  omega

theorem regionIn_rxsum : (regionIn h r es s).rxsum = sum8 (h.bytes ++ r) := by
  simp [regionIn, pullRegion, receiving, sum8_append]

theorem rxRegion_regionIn (hr : r.length = (le16 h.lenLo h.lenHi).toNat) : rxRegion (regionIn h r es s) = some r := by
  have hcnt := toNat_receiving_rxcnt (s := s) (h := h) (es := es) (length_rxHdr_bytes h).le
  simp only [rxRegion, regionIn, pullRegion, pullBytes_rxbuf, pullBytes_rxlen, acceptHeader_rxcnt,
    acceptHeader_rxlen, hcnt, length_rxHdr_bytes, Nat.sub_self, ← hr, readAll_writeAll]

theorem run_regionIn (hr : r.length = (le16 h.lenLo h.lenHi).toNat) :
    Host.Core.run core r.length
        (acceptHeader (le16 h.lenLo h.lenHi) (receiving h.bytes h (r.map .rxByte ++ es) s)) =
      .next (regionIn h r es s) := by
  have hcnt := toNat_receiving_rxcnt (s := s) (h := h) (es := r.map .rxByte ++ es) (length_rxHdr_bytes h).le
  rw [length_rxHdr_bytes] at hcnt
  exact run_region rfl hcnt.ge (by rw [acceptHeader_rxcnt, hcnt, acceptHeader_rxlen, hr]) rfl

theorem regionIn_frame (h : RxHdr) (r : List Byte) (es : List Event) (s : State) :
    (regionIn h r es s).sched = es ∧ (regionIn h r es s).phase = .rxbody ∧
      (regionIn h r es s).rxlen = le16 h.lenLo h.lenHi ∧ (regionIn h r es s).responses = s.responses ∧
      (regionIn h r es s).rxPulled = s.rxPulled ++ h.bytes ++ r ∧ (regionIn h r es s).txStream = s.txStream ∧
      (regionIn h r es s).txbuf = s.txbuf ∧ (regionIn h r es s).gaddr = s.gaddr ∧
      (regionIn h r es s).daddr = s.daddr ∧ (regionIn h r es s).rxck = s.rxck :=
  by simp [regionIn, pullRegion, receiving]

/-- The body's bytes after an accepted header end the RECV (R125 to R132). -/
theorem run_body {b : Byte} {rest : List Event} (hr : r.length = (le16 h.lenLo h.lenHi).toNat) :
    ∃ t, Host.Core.run core (r.length + 1)
        (acceptHeader (le16 h.lenLo h.lenHi) (receiving h.bytes h (r.map .rxByte ++ .rxByte b :: rest) s)) = .next t ∧
      RecvEnds s t (h.bytes ++ (r ++ [b]))
        (checkReply s.rxck (h.bytes ++ (r ++ [b])) (le16 h.lenLo h.lenHi) r) rest := by
  have he : nextEvent (regionIn h r (.rxByte b :: rest) s) = some (.rxByte b, regionIn h r rest s) :=
    nextEvent_head rfl rfl
  have hn := toNat_regionIn_rxcnt (s := s) (es := rest) hr
  have hreg := rxRegion_regionIn (s := s) (es := rest) hr
  obtain ⟨act, ha⟩ := regionRuns_of_rxRegion hreg
  have hlast := step_lastByte he rfl hn hreg ha
  obtain ⟨c, st, hends⟩ := lastByte_ends ha.2 b (regionIn h r rest s)
  have hsum : sum8 (h.bytes ++ (r ++ [b])) = (regionIn h r rest s).rxsum + b := by
    rw [regionIn_rxsum, ← List.append_assoc, sum8_append_singleton]
  have hrun := (run_add_of_run (run_regionIn (s := s) (es := .rxByte b :: rest) hr) 1).trans (run_one_of_step hlast)
  have hresp := lastByte_responses ha.2 hsum
  obtain ⟨hsched, -, hlen, hresponses, hpulled, htx, htxbuf, hg, hd, hk⟩ := regionIn_frame h r rest s
  have hcnt := toNat_rxcnt_succ (s := regionIn h r rest s) hn.le
  refine ⟨_, hrun, ?_⟩
  generalize lastByte act b (regionIn h r rest s) = t at hends hresp
  rw [hlen, hk, hresponses] at hresp
  obtain ⟨hgaddr, hdaddr, hrxck⟩ := hends.config
  obtain ⟨hstream, hpull⟩ := hends.streams
  refine
    { phase := hends.phase_idle
      sched := hends.sched.trans hsched
      responses := hresp
      rxPulled := hpull.trans ?pulled
      rxcnt := ?count
      txStream := hstream.trans htx
      txbuf := hends.txbuf.trans htxbuf
      config := ⟨hgaddr.trans hg, hdaddr.trans hd, hrxck.trans hk⟩ }
  case pulled =>
    have happ : (regionIn h r rest s).rxPulled ++ [b] = s.rxPulled ++ (h.bytes ++ (r ++ [b])) := by
      simp only [hpulled, List.append_assoc]
    exact happ
  case count =>
    rw [hends.rxcnt]
    refine hcnt.trans ?_
    simp only [hn, hr, List.length_append, length_rxHdr_bytes, List.length_singleton, Nat.add_assoc]

end

/-- Settles O21: the request, the header unchecked, its checks, and the body, as DecodeReply takes them. -/
theorem recvRunMatchesDecodeReply : Obligations.RecvRunMatchesDecodeReply := by
  intro bytes rest o s hp hd hdec hs
  suffices h : ∃ t, Host.Core.run core (bytes.length + 1) s = .next t ∧ RecvEnds s t bytes o rest by
    obtain ⟨t, hrun, hends⟩ := h
    exact ⟨t, hrun, hends.phase, hends.sched, hends.responses, hends.rxPulled, hends.rxcnt, hends.txStream,
      hends.txbuf, hends.config⟩
  cases wholeReply_of_decodeReply hdec with
  | badHeader h ht =>
    obtain ⟨s4, s5, hrun, he, hfetch⟩ := run_to_header hp hd hs
    have hlast := step_of_fetch_pass he (hfetch.trans (fetchHeader_of_badTag ht))
    exact ⟨_, (run_add_of_run hrun 1).trans (run_one_of_step hlast), recvEnds_of_raise s h rest rfl⟩
  | badDeviceId h ht hdev =>
    obtain ⟨s4, s5, hrun, he, hfetch⟩ := run_to_header hp hd hs
    have hlast := step_of_fetch_pass he (hfetch.trans (fetchHeader_of_badDevice ht hdev))
    exact ⟨_, (run_add_of_run hrun 1).trans (run_one_of_step hlast), recvEnds_of_raise s h rest rfl⟩
  | frame h r b ht hdev hr =>
    rw [List.map_append, List.map_append, List.append_assoc, List.append_assoc] at hs
    obtain ⟨s4, s5, hrun, he, hfetch⟩ := run_to_header hp hd hs
    have hfifth := step_of_fetch_run he (hfetch.trans (fetchHeader_of_good ht hdev))
    have haccept := hfifth.trans (replyHeaderAccepted _ (receiving h.bytes h _ s) rfl rfl)
    obtain ⟨t, hbody, hends⟩ := run_body (s := s) (b := b) (rest := rest) hr
    have hlen : (h.bytes ++ (r ++ [b])).length + 1 = 5 + (r.length + 1 + 1) := by
      simp only [List.length_append, length_rxHdr_bytes, List.length_singleton]
      omega
    rw [hlen, run_add_of_run hrun, run_succ_of_step haccept]
    exact ⟨t, hbody, hends⟩

end Sys2Proof.Machine
end

section
/-! PROOFS. The host software around the block: the picture capture, the operations of the session, the session as the
only issuer of requests, and the errors and strings its caller is given (spec/45_host_software.md). -/

namespace Sys2Proof.Machine

/-! ### The errors a caller is given -/

/-- An error's code names it among the eight (R232, R240). -/
theorem hostErrorOf_err (e : Error) (info : Half) : hostErrorOf (.err e.code info) = .block e info := by
  cases e <;> rfl

/-- Settles O54: the code of each error finds it again. -/
theorem errorsReachTheCaller : Obligations.ErrorsReachTheCaller :=
  ⟨hostErrorOf_err, rfl⟩

/-! ### An operation's moves -/

/-- The SEND comes first (R221). -/
theorem nextMove_nil {op : Operation} (hv : op.argumentsValid = true) (g d : Byte) :
    nextMove g d op [] = .request (.reqSend op.payload) := by
  simp only [nextMove, hv, if_true]

/-- After SENT come the reply reads (R221). -/
theorem nextMove_sent {op : Operation} (hv : op.argumentsValid = true) (g d : Byte) (rs : List Response) :
    nextMove g d op (.sent :: rs) = readMove op.kind (op.reads g d) [] rs := by
  simp only [nextMove, hv, if_true]

/-- An ERR response to the SEND ends the operation (R232). -/
theorem nextMove_err {op : Operation} (hv : op.argumentsValid = true) (g d : Byte) (e : Error) (info : Half)
    (rs : List Response) : nextMove g d op (.err e.code info :: rs) = .result (.error (.block e info)) := by
  simp only [nextMove, hv, if_true, hostErrorOf_err]

/-- An ERR response to a read ends the operation, whatever follows (R229, R232). -/
theorem readMove_err (k : ReplyKind) (n : Nat) (qs : List (List Byte)) (e : Error) (info : Half) (rs : List Response) :
    readMove k (n + 1) qs (.err e.code info :: rs) = .result (.error (.block e info)) := by
  simp only [readMove, hostErrorOf_err]

theorem readMove_nil (k : ReplyKind) (n : Nat) (qs : List (List Byte)) :
    readMove k (n + 1) qs [] = .request .reqRecv := rfl

theorem reads_of_one {op : Operation} {r : Reading} (hk : op.kind = .one r) (g d : Byte) :
    op.reads g d = if d = 0x00 then 1 else 0 := by
  simp only [Operation.reads, hk, replyExpected_iff, Config.direct]

/-- Settles O49: the moves of an operation with at most one reply read. -/
theorem sessionOperationInOrder : Obligations.SessionOperationInOrder := by
  intro g d op r hv hk
  have hreads := reads_of_one hk g d
  refine ⟨nextMove_nil hv g d, fun hd => ?_, fun hd => ?_, fun c q hd => ?_,
    fun e info => ⟨nextMove_err hv g d e info [], fun hd => ?_⟩⟩
  · rw [nextMove_sent hv, hreads, if_pos hd]
    rfl
  · rw [nextMove_sent hv, hreads, if_neg hd, hk]
    rfl
  · rw [nextMove_sent hv, hreads, if_pos hd, hk]
    rfl
  · rw [nextMove_sent hv, hreads, if_pos hd, readMove_err]

/-! ### The picture capture -/

/-- A capture's reads that have been answered with `qs` (R229). -/
theorem nextMove_capture (g d : Byte) (args : List Byte) {n : Nat} (qs : List (Half × List Byte))
    (hn : n + qs.length = 64) (rs : List Response) :
    nextMove g d (capturePicture args) (.sent :: ((qs.map fun q => Response.data q.1 q.2) ++ rs)) =
      readMove .picture n (qs.map fun q => q.2) rs := by
  have hreads : (capturePicture args).reads g d = n + qs.length := hn.symm
  rw [nextMove_sent rfl, hreads]
  exact readMove_data_append .picture qs n [] rs

theorem imageOf_eq (qs : List (Half × List Byte)) :
    imageOf (qs.map fun q => q.2) = (qs.map fun q => q.2.drop 3).flatten := by
  rw [imageOf, List.map_map]
  rfl

/-- A response that is no DATA among the reads that are left ends them with an error (R229). -/
theorem readMove_error_of_mem (k : ReplyKind) {n : Nat} {qs : List (List Byte)} {rs : List Response} {r : Response}
    (hr : r ∈ rs.take n) (hd : ∀ c q, r ≠ .data c q) : ∃ e : HostError, readMove k n qs rs = .result (.error e) := by
  induction n generalizing qs rs with
  | zero => simp at hr
  | succ n ih =>
    cases rs with
    | nil => simp at hr
    | cons r' rs =>
      cases r' with
      | data c q =>
        rw [List.take_succ_cons, List.mem_cons] at hr
        exact ih (hr.resolve_left (hd c q))
      | sent | val _ | err _ _ => exact ⟨_, rfl⟩

/-- Settles O47: 64 fragments are read to the end and assembled; any other response among them is an error. -/
theorem pictureLengthIsSumOfFragments : Obligations.PictureLengthIsSumOfFragments := by
  intro g d args
  refine ⟨fun qs hlen => ⟨_, ?image, imageOf_eq qs, ?length⟩, fun rs r hr hd => ?error⟩
  case image =>
    have hmove := nextMove_capture g d args (n := 0) qs (by rw [hlen]) []
    rw [List.append_nil] at hmove
    exact hmove
  case length =>
    rw [imageOf_eq, List.length_flatten, List.map_map]
    simp [Function.comp_def]
  case error =>
    rw [nextMove_sent rfl]
    exact readMove_error_of_mem .picture hr hd

/-- Settles O48: fewer than 64 fragments leave a read, which presents a RECV or ends at an ERR response. -/
theorem captureStopsAtFirstError : Obligations.CaptureStopsAtFirstError := by
  intro g d args
  refine ⟨nextMove_nil rfl g d, fun e info rest => nextMove_err rfl g d e info rest, fun qs hlen => ?_⟩
  obtain ⟨n, hn⟩ : ∃ n, n + 1 + qs.length = 64 := ⟨63 - qs.length, by omega⟩
  refine ⟨?recv, fun e info rest => ?stops⟩
  case recv =>
    have hmove := nextMove_capture g d args qs hn []
    rw [List.append_nil] at hmove
    rw [hmove, readMove_nil]
  case stops => rw [nextMove_capture g d args qs hn, readMove_err]

/-! ### The argument checks and the payloads -/

theorem volumeLevelValid_iff (v : Int) : volumeLevelValid v = true ↔ 0 ≤ v ∧ v ≤ 8 := by
  simp [volumeLevelValid]

theorem standbyValid_iff (v : Int) : standbyValid v = true ↔ 0 ≤ v ∧ v ≤ 1 := by
  simp [standbyValid]

/-- A failed check is all there is of the operation (R226). -/
theorem nextMove_of_invalid {op : Operation} (hv : ¬op.argumentsValid = true) (g d : Byte) (rs : List Response) :
    nextMove g d op rs = .result (.error .argument) :=
  if_neg hv

theorem setVolume_invalid {v : Int} (hv : v < 0 ∨ 8 < v) : ¬(setVolume v).argumentsValid = true := by
  rw [setVolume, volumeLevelValid_iff]
  omega

theorem setStandby_invalid {v : Int} (hv : v < 0 ∨ 1 < v) : ¬(setStandby v).argumentsValid = true := by
  rw [setStandby, standbyValid_iff]
  omega

/-- The session returns the host's ArgumentError and presents nothing (R226). -/
theorem advance_of_invalid {h : Hosted} {σ : Session} {c : DeviceCommand} (hs : h.session = some σ)
    (hw : σ.waiting = false) (ht : σ.task = some (.command c)) (hv : ¬c.operation.argumentsValid = true) :
    ∃ h' : Hosted, h.act .advance = some h' ∧ h'.block = h.block ∧ h'.returned = h.returned ++ [.error .argument] := by
  have hmove : (Task.command c).move σ.gaddr σ.daddr σ.got = .result (.error .argument) :=
    nextMove_of_invalid hv _ _ _
  have hadv : h.advance σ =
      { h with session := some { σ with task := none, got := [] }, returned := h.returned ++ [.error .argument] } := by
    simp only [Hosted.advance, ht, hw, hmove]
  have hact : h.act .advance = some (h.advance σ) := by simp only [Hosted.act, hs]
  exact ⟨_, hact, by rw [hadv], by rw [hadv]⟩

/-- Settles O50: the two checks decide between the host's error and the SEND. -/
theorem failedCheckPresentsNoRequest : Obligations.FailedCheckPresentsNoRequest := by
  intro v g d rs
  refine ⟨fun hv => nextMove_of_invalid (setVolume_invalid hv) g d rs,
    fun hv => nextMove_of_invalid (setStandby_invalid hv) g d rs,
    fun h0 h8 => ⟨_, nextMove_nil ((volumeLevelValid_iff v).mpr ⟨h0, h8⟩) g d⟩,
    fun h0 h1 => ⟨_, nextMove_nil ((standbyValid_iff v).mpr ⟨h0, h1⟩) g d⟩, ?_⟩
  rintro h σ hs hw (⟨ht, hv⟩ | ⟨ht, hv⟩)
  · exact advance_of_invalid hs hw ht (setVolume_invalid hv)
  · exact advance_of_invalid hs hw ht (setStandby_invalid hv)

theorem argumentWidth_le {code : Half} : argumentWidth code ≤ 65530 := by
  unfold argumentWidth
  split
  · decide
  · exact Nat.min_le_right _ _

/-- A payload of a listed code and as many argument bytes as its width (R227). -/
def CommandPayload (p : List Byte) : Prop :=
  ∃ r ∈ commandRows, ∃ args : List Byte,
    p = r.2.extractLsb' 0 8 :: r.2.extractLsb' 8 8 :: args ∧ args.length = argumentWidth r.2 ∧ args.length ≤ 65530

theorem commandPayload_of_width {code : Half} {args : List Byte} (hc : code ∈ commandRows.map Prod.snd)
    (hl : args.length = argumentWidth code) : CommandPayload (commandPayload code args) := by
  obtain ⟨r, hr, rfl⟩ := List.mem_map.mp hc
  exact ⟨r, hr, args, rfl, hl, hl.trans_le argumentWidth_le⟩

theorem commandPayload_of_arguments {code : Half} (hc : code ∈ commandRows.map Prod.snd) (args : Arguments code) :
    CommandPayload (commandPayload code args.toList) :=
  commandPayload_of_width hc args.length_toList

theorem length_levelBytes (code : Half) (v : Int) : (levelBytes code v).length = argumentWidth code := by
  simp [levelBytes]

theorem operation_payload (c : DeviceCommand) : CommandPayload c.operation.payload := by
  cases c with
  | setVolume level => exact commandPayload_of_width (by decide) (length_levelBytes _ level)
  | setStandby status => exact commandPayload_of_width (by decide) (length_levelBytes _ status)
  | setBaudRate rate => exact commandPayload_of_width (code := 0x7879) (by decide) rfl
  | setMonitorSettings a r | setAddr a r | setRxEdid a r | downloadUserEdid a r | getVolume a r | getStandby a r
  | getSource a r | getSignalPackageInfo a r | getMonitoringData a r | getPixelRgbData a r | getExt5vInput a r
  | getSignalStatus a r | getDeviceAddr a r | getDeviceVersion a r | getRxEdidIndex a r | getRxEdidData a r
  | getFwInfo a r =>
    exact commandPayload_of_arguments (by decide) a
  | getSignalInfo a | getTiming a | getPicture a => exact commandPayload_of_arguments (by decide) a
  | getBatteryVoltage _ a => exact commandPayload_of_arguments (by decide) a

/-- Arguments of the right width, all zero. -/
def zeroArguments (code : Half) : Arguments code := Vector.replicate (argumentWidth code) 0

/-- Settles O51: command by command, its code stands in R82's table and its arguments have the code's width; and row
by row, some arguments make the operation of its code. -/
theorem deviceCommandPayloads : Obligations.DeviceCommandPayloads := by
  refine ⟨operation_payload, rfl, ?_⟩
  simp only [commandRows, List.forall_mem_cons]
  exact ⟨⟨.setVolume 0, _, rfl⟩, ⟨.setStandby 0, _, rfl⟩, ⟨.setMonitorSettings (zeroArguments _) .raw, _, rfl⟩,
    ⟨.setAddr (zeroArguments _) .raw, _, rfl⟩, ⟨.setRxEdid (zeroArguments _) .raw, _, rfl⟩,
    ⟨.downloadUserEdid (zeroArguments _) .raw, _, rfl⟩, ⟨.setBaudRate 0, _, rfl⟩,
    ⟨.getVolume (zeroArguments _) .raw, _, rfl⟩, ⟨.getStandby (zeroArguments _) .raw, _, rfl⟩,
    ⟨.getSource (zeroArguments _) .raw, _, rfl⟩, ⟨.getSignalInfo (zeroArguments _), _, rfl⟩,
    ⟨.getTiming (zeroArguments _), _, rfl⟩, ⟨.getSignalPackageInfo (zeroArguments _) .raw, _, rfl⟩,
    ⟨.getPicture (zeroArguments _), _, rfl⟩, ⟨.getMonitoringData (zeroArguments _) .raw, _, rfl⟩,
    ⟨.getPixelRgbData (zeroArguments _) .raw, _, rfl⟩, ⟨.getBatteryVoltage false (zeroArguments _), _, rfl⟩,
    ⟨.getExt5vInput (zeroArguments _) .raw, _, rfl⟩, ⟨.getSignalStatus (zeroArguments _) .raw, _, rfl⟩,
    ⟨.getDeviceAddr (zeroArguments _) .raw, _, rfl⟩, ⟨.getDeviceVersion (zeroArguments _) .raw, _, rfl⟩,
    ⟨.getRxEdidIndex (zeroArguments _) .raw, _, rfl⟩, ⟨.getRxEdidData (zeroArguments _) .raw, _, rfl⟩,
    ⟨.getFwInfo (zeroArguments _) .raw, _, rfl⟩, nofun⟩

/-- Settles O56: the three bytes are bits 0 to 23 of the rate. -/
theorem baudRateSendsLowThreeBytes : Obligations.BaudRateSendsLowThreeBytes := by
  intro v
  refine ⟨_, _, _, rfl, ?_⟩
  simp only [BitVec.extractLsb'_toNat, Nat.shiftRight_eq_div_pow]
  omega

/-! ### The session and the block -/

theorem hostEvents_sublist_of_sched {h h' : Hosted} (hs : h'.block.sched.Sublist h.block.sched) :
    h'.hostEvents.Sublist h.hostEvents :=
  hs.filter _

/-- The transport's own events are none of the host's (R220). -/
theorem hostEvents_transport (h : Hosted) {e : Event} (he : e.isHost = false) :
    { h with block := { h.block with sched := h.block.sched ++ [e] } }.hostEvents = h.hostEvents := by
  simp [Hosted.hostEvents, List.filter_append, he]

theorem hostEvents_reopenTransport (h : Hosted) : h.reopenTransport.hostEvents = h.hostEvents := by
  have hfail (c : Bool) : (if c then [Event.xfail .closed] else []).filter Event.isHost = [] := by cases c <;> rfl
  have hhost : h.hostEvents.filter Event.isHost = h.hostEvents := by simp [Hosted.hostEvents, List.filter_filter]
  calc h.reopenTransport.hostEvents = _ := List.filter_append _ _
    _ = h.hostEvents ++ [] := congrArg₂ (· ++ ·) hhost (hfail _)
    _ = h.hostEvents := List.append_nil _

/-- A step takes one event from the schedule and adds none (R165). -/
theorem sched_sublist_of_step {s t : State} (h : step s = .next t) : t.sched.Sublist s.sched := by
  obtain ⟨e, s1, he, heff⟩ := step_takes_event h
  obtain ⟨-, pre, post, hs, rfl, -⟩ := nextEvent_some he
  rw [heff.sched, hs]
  exact (List.sublist_cons_self e post).append_left pre

/-- Settles O52: only the session's going on adds an event of the host's, and it is the one its task wants. -/
theorem sessionIsOnlyIssuer : Obligations.SessionIsOnlyIssuer := by
  intro h h' a hact hopen
  cases a with
  | openSession g d k => exact absurd rfl (hopen g d k)
  | call t =>
    cases hσ : h.session with
    | none => simp [Hosted.act, hσ] at hact
    | some σ =>
      simp only [Hosted.act, hσ] at hact
      split at hact
      · cases hact
        exact .inl (List.Sublist.refl _)
      · cases hact
  | advance =>
    cases hσ : h.session with
    | none => simp [Hosted.act, hσ] at hact
    | some σ =>
      simp only [Hosted.act, hσ, Option.some.injEq] at hact
      subst hact
      rcases advance_cases σ h with hadv | ⟨r, -, -, hadv⟩ | ⟨t, ht, hw, ⟨e, hmove, hadv⟩ | ⟨r, -, hadv⟩⟩ <;> rw [hadv]
      · exact .inl (List.Sublist.refl _)
      · exact .inl (List.Sublist.refl _)
      · refine .inr ⟨σ, t, e, rfl, rfl, ht, hw, hmove, ?_⟩
        simp [Hosted.hostEvents, List.filter_append, move_request_isHost hmove]
      · exact .inl (List.Sublist.refl _)
  | transport e =>
    simp only [Hosted.act] at hact
    split at hact
    · cases hact
    · next he =>
      cases hact
      rw [hostEvents_transport h (by simpa using he)]
      exact .inl (List.Sublist.refl _)
  | reopenTransport =>
    cases hact
    rw [hostEvents_reopenTransport]
    exact .inl (List.Sublist.refl _)
  | blockStep =>
    simp only [Hosted.act] at hact
    split at hact
    · next t hstep =>
      cases hact
      exact .inl (hostEvents_sublist_of_sched (sched_sublist_of_step hstep))
    · cases hact

/-- A waiting request of the session before is withdrawn (entry 15). -/
theorem hostEvents_openSession (g d : Byte) (k : Bool) (h : Hosted) :
    (h.openSession g d k).hostEvents = [.reset g d k] := by
  have hnone : (h.block.sched.filter fun e => !e.isHost).filter Event.isHost = [] := by
    simp [List.filter_filter]
  exact congrArg (Event.reset g d k :: ·) hnone

theorem abandonedResult_of_task {h : Hosted} {τ : Session} {u : Task} (hτ : h.session = some τ)
    (hu : τ.task = some u) : h.abandonedResult = [.error .abandoned] := by
  obtain ⟨g, d, k, task, got, waiting, seen⟩ := τ
  subst hu
  simp only [Hosted.abandonedResult, hτ]

theorem abandonedResult_of_no_task {h : Hosted} (hno : ∀ τ u, h.session = some τ → τ.task ≠ some u) :
    h.abandonedResult = [] := by
  unfold Hosted.abandonedResult
  split
  · next hτ => exact absurd rfl (hno _ _ hτ)
  · rfl

/-- Settles O53: the RESET heads the schedule, and what it leaves of the host's events is nothing. -/
theorem openedSessionResetsBlock : Obligations.OpenedSessionResetsBlock := by
  intro h g d k
  have he := nextEvent_head (s := (h.openSession g d k).block) (e := .reset g d k) rfl rfl
  refine ⟨h.openSession g d k, _, _, rfl, rfl, rfl, rfl, rfl, rfl, ?events, ?abandons, ?nothing,
    (step_of_fetch_run he rfl).trans rfl, rfl, rfl, rfl, rfl, rfl⟩
  case events => exact hostEvents_openSession g d k h
  case abandons => exact fun τ u hτ hu => congrArg (h.returned ++ ·) (abandonedResult_of_task hτ hu)
  case nothing =>
    intro hno
    exact (congrArg (h.returned ++ ·) (abandonedResult_of_no_task hno)).trans (List.append_nil _)

/-! ### Display strings -/

/-- A field whose raw value is 0 resolves to its index-0 string (R223). -/
theorem displaySignal_of_zero {i : SignalInfo} {f : SignalField} (h : i.get f = 0) :
    displaySignal i f = .ok f.indexZero :=
  if_pos h

/-- Settles O55: all ten values are 0. -/
theorem indexZeroStringsResolve : Obligations.IndexZeroStringsResolve := by
  have hzero : ∀ f : SignalField, SignalInfo.get ⟨0, 0, 0, 0, 0, 0, 0, 0, 0, 0⟩ f = 0 := fun f => by cases f <;> rfl
  have hshow (f : SignalField) := displaySignal_of_zero (hzero f)
  exact ⟨_, rfl, hshow _, hshow _, hshow _, hshow _, hshow _, hshow _, hshow _, fun f => ⟨_, hshow f⟩⟩

end Sys2Proof.Machine
end
